-- ==== Sys2Proof/Word.lean ====
section
/-! DEFINITION. The word types of the DT-44's frames (spec 11_frame_layouts_and_pins.md). -/

namespace Sys2Proof

/-- One byte of a frame (11, "Every frame is a string of bytes"). -/
abbrev Byte := BitVec 8

/-- A two-byte field. -/
abbrev Word16 := BitVec 16

/-- A three-byte field (a chainage on the line). -/
abbrev Word24 := BitVec 24

end Sys2Proof
end

