-- ==== Sys2Proof/Syntax.lean ====
section
/-! DEFINITION. The commands of the DT-44: one constructor of `Instr` for each row of
spec/opcode_table.json, with the fields of the frame or event it stands for. -/

namespace Sys2Proof

/-- The two line ports (00, "The tilt line"). -/
inductive Port where
  | a
  | b
  deriving DecidableEq, Repr

/-- The two local ports that receive (00, "The sensor port", "The drive port"). -/
inductive LocalPort where
  | sensor
  | drive
  deriving DecidableEq, Repr

/-- The envelope of a line frame (11.1) but for its kind, its length and its check sequence, which the
payload determines. -/
structure Header where
  dest : Byte
  source : Byte
  level : Byte
  tag : Word16
  hop : Byte
  deriving DecidableEq, Repr

/-- The payload of a frame that the row FRAME_FORWARD passes on (R155): a request's payload (request code
and arguments), or that of a REPLY, a REPORT or an unknown kind, with its kind code. -/
inductive PassBody where
  | request (payload : List Byte)
  | other (kind : Byte) (payload : List Byte)
  deriving DecidableEq, Repr

/-- What DEVICE_RESET reports of the reset pin (R176): a low level, or power-on, which holds the part in device
reset; or the release, with the levels of ADR4 .. ADR0 at that instant. -/
inductive ResetEvent where
  | held
  | released (straps : BitVec 5)
  deriving DecidableEq, Repr

/-- The commands. `rest` is what a payload holds beyond its kind's size (R175: a longer payload passes
the check); it is forwarded and otherwise ignored. `args` are a request's argument bytes (11.2). -/
inductive Instr where
  /-- R176: device reset begins to hold the part, or releases it. -/
  | deviceReset (event : ResetEvent)
  /-- R3: a good ODOMETRY frame on a line port. -/
  | odometry (port : Port) (h : Header) (chainage : Word24) (speed : Word16) (direction : Byte) (rest : List Byte)
  /-- R13: expiry of the odometry-loss watchdog. -/
  | odoLost
  /-- R15: a good FIX frame on a line port. -/
  | fix (port : Port) (h : Header) (beacon : Word24) (passage : Word24) (accuracy : Byte) (verdict : Byte) (rest : List Byte)
  /-- R82: a good SAMPLE frame on a line port. -/
  | sample (port : Port) (h : Header) (chainage : Word24) (accel : Word16) (flags : Byte) (seq : Byte) (rest : List Byte)
  /-- R79: a good SENSE frame on the sensor port. -/
  | sense (accel : Word16) (flags : Byte)
  /-- R175: a bad frame on a local port. -/
  | localFrameDiscard (port : LocalPort) (bytes : List Byte)
  /-- R143, R144: a good DRIVE-ACK on the drive port. -/
  | driveAck (seq : Byte) (stroke : Word16) (status : Byte)
  /-- R97, R98: expiry of the step timer. -/
  | stepExpiry
  /-- R53, R54: completion of the bank verification. -/
  | verifyCompletion
  /-- R158: the end of a transmission on a line port. -/
  | transmissionCompletion (port : Port)
  /-- R155: a good frame that is only passed on. -/
  | frameForward (port : Port) (h : Header) (body : PassBody)
  /-- R154: a line frame with a bad check sequence. -/
  | checkError (port : Port) (bytes : List Byte)
  /-- R167: a REQUEST frame from the downstream port under the TRAIL_REQUESTS mask. -/
  | trailDrop (port : Port) (h : Header) (payload : List Byte)
  /-- R161: a REQUEST whose code is not in the catalogue (or that carries no code). -/
  | requestUnknown (port : Port) (h : Header) (payload : List Byte)
  | statusRead (port : Port) (h : Header) (args : List Byte)
  | paramSet (port : Port) (h : Header) (args : List Byte)
  | paramRead (port : Port) (h : Header) (args : List Byte)
  | modeSet (port : Port) (h : Header) (args : List Byte)
  | descWrite (port : Port) (h : Header) (args : List Byte)
  | descClear (port : Port) (h : Header) (args : List Byte)
  | descRead (port : Port) (h : Header) (args : List Byte)
  | sectionSelect (port : Port) (h : Header) (args : List Byte)
  | loadHead (port : Port) (h : Header) (args : List Byte)
  | loadTail (port : Port) (h : Header) (args : List Byte)
  | bankOpen (port : Port) (h : Header) (args : List Byte)
  | bankClose (port : Port) (h : Header) (args : List Byte)
  | bankErase (port : Port) (h : Header) (args : List Byte)
  | recordRead (port : Port) (h : Header) (args : List Byte)
  | strokeLoad (port : Port) (h : Header) (args : List Byte)
  | strokeRead (port : Port) (h : Header) (args : List Byte)
  | hold (port : Port) (h : Header) (args : List Byte)
  | release (port : Port) (h : Header) (args : List Byte)
  | resume (port : Port) (h : Header) (args : List Byte)
  | auditArm (port : Port) (h : Header) (args : List Byte)
  | featureMask (port : Port) (h : Header) (args : List Byte)
  | restart (port : Port) (h : Header) (args : List Byte)
  deriving DecidableEq, Repr

end Sys2Proof
end

