-- ==== Sys2Proof/Machine/Check.lean ====
section
/-! DEFINITION. The check sequence of R175, the byte layouts of the frames (11.1 to 11.3) and the judgement
whether a received frame is bad. -/

namespace Sys2Proof.Machine

/-- One bit of the check sequence: generator x¹⁶ + x¹² + x⁵ + 1, most significant bit first (R175). -/
def crcBit (reg : Word16) (bit : Bool) : Word16 :=
  if reg.msb != bit then (reg <<< 1) ^^^ 0x1021#16 else reg <<< 1

/-- One byte of the check sequence, most significant bit first (R175). -/
def crcByte (reg : Word16) (b : Byte) : Word16 :=
  [7, 6, 5, 4, 3, 2, 1, 0].foldl (fun r i => crcBit r (b.getLsbD i)) reg

/-- The check sequence of a string of bytes: the register starts at 65,535 and is sent unaltered (R175). -/
def checkSequence (bytes : List Byte) : Word16 :=
  bytes.foldl crcByte 0xFFFF#16

/-- The high byte of a two-byte field. -/
def highByte (w : Word16) : Byte := w.extractLsb' 8 8

/-- The low byte of a two-byte field. -/
def lowByte (w : Word16) : Byte := w.extractLsb' 0 8

/-- A two-byte field, most significant byte first (11). -/
def bytes16 (w : Word16) : List Byte := [highByte w, lowByte w]

/-- A three-byte field, most significant byte first (11). -/
def bytes24 (w : Word24) : List Byte := [w.extractLsb' 16 8, w.extractLsb' 8 8, w.extractLsb' 0 8]

/-- Two bytes read as a field. -/
def word16 (hi lo : Byte) : Word16 := hi ++ lo

/-- Three bytes read as a field. -/
def word24 (b2 b1 b0 : Byte) : Word24 := b2 ++ b1 ++ b0

/-- A string of bytes followed by its check sequence, high byte first (R175). -/
def withCheck (bytes : List Byte) : List Byte := bytes ++ bytes16 (checkSequence bytes)

/-- A string of bytes ends in the check sequence of the bytes before it (R175). -/
def checkGood (bytes : List Byte) : Bool :=
  2 ≤ bytes.length && bytes == withCheck (bytes.take (bytes.length - 2))

/-- The smallest payload a kind may have under R175: ODOMETRY 6, FIX 8, SAMPLE 7, any other kind 0 (11.2). -/
def leastPayload (kind : Byte) : Nat :=
  if kind = 1#8 then 6 else if kind = 2#8 then 8 else if kind = 3#8 then 7 else 0

/-- A frame received on a line port is judged good: none of the four cases of R175 holds. -/
def lineFrameGood (bytes : List Byte) : Bool :=
  match bytes with
  | kind :: _ :: _ :: _ :: _ :: _ :: _ :: len :: _ =>
    checkGood bytes && bytes.length == 10 + len.toNat && len.toNat ≤ 96 && leastPayload kind ≤ len.toNat
  | _ => false

/-- A frame received on the sensor port is a good SENSE frame: six bytes, kind 1, a good check (R175, 11.3). -/
def senseFrameGood (bytes : List Byte) : Bool :=
  bytes.length == 6 && bytes.head? == some 1#8 && checkGood bytes

/-- A frame received on the drive port is a good DRIVE-ACK: seven bytes, kind 4, a good check (R175, 11.3). -/
def ackFrameGood (bytes : List Byte) : Bool :=
  bytes.length == 7 && bytes.head? == some 4#8 && checkGood bytes

/-- The bytes of a line frame, check sequence included (11.1). -/
def lineBytes (kind : Byte) (h : Header) (payload : List Byte) : List Byte :=
  withCheck ([kind, h.dest, h.source, h.level] ++ bytes16 h.tag ++ [h.hop, BitVec.ofNat 8 payload.length] ++ payload)

/-- The payload of an ODOMETRY frame (11.2). -/
def odometryPayload (chainage : Word24) (speed : Word16) (direction : Byte) (rest : List Byte) : List Byte :=
  bytes24 chainage ++ bytes16 speed ++ [direction] ++ rest

/-- The payload of a FIX frame (11.2). -/
def fixPayload (beacon passage : Word24) (accuracy verdict : Byte) (rest : List Byte) : List Byte :=
  bytes24 beacon ++ bytes24 passage ++ [accuracy, verdict] ++ rest

/-- The payload of a SAMPLE frame (11.2). -/
def samplePayload (chainage : Word24) (accel : Word16) (flags seq : Byte) (rest : List Byte) : List Byte :=
  bytes24 chainage ++ bytes16 accel ++ [flags, seq] ++ rest

/-- The bytes of a SENSE frame (11.3). -/
def senseBytes (accel : Word16) (flags : Byte) : List Byte :=
  withCheck ([1#8] ++ bytes16 accel ++ [flags])

/-- The bytes of a DRIVE-ACK (11.3). -/
def ackBytes (seq : Byte) (stroke : Word16) (status : Byte) : List Byte :=
  withCheck ([4#8, seq] ++ bytes16 stroke ++ [status])

/-- The bytes of a DRIVE MOVE carrying a target stroke (11.3). -/
def moveBytes (seq : Byte) (stroke : Word16) : List Byte :=
  withCheck ([2#8, seq] ++ bytes16 stroke)

/-- The bytes of a DRIVE QUERY, whose stroke field is 0 (11.3). -/
def queryBytes (seq : Byte) : List Byte :=
  withCheck ([3#8, seq] ++ bytes16 0#16)

end Sys2Proof.Machine
end

