-- ==== Sys2Proof/WellFormed.lean ====
section
/-! DEFINITION. Which commands are well formed: those that some frame or event of the spec spells. -/

namespace Sys2Proof

/-- A payload fits a line frame: L is 0 .. 96 (11.1). -/
def payloadFits (bytes : Nat) : Bool := bytes ≤ 96

/-- A request code of the catalogue, 1 .. 22 (11.2). -/
def catalogueCode (code : Byte) : Bool := 1#8 ≤ code && code ≤ 22#8

/-- The fields of a command are those of a frame or event of the spec. A discarded frame may have any bytes: bad
ones under R175, or those of a frame that began to arrive before the release of device reset (R176). A request code
outside the catalogue is outside it, and every payload fits its frame. -/
def wellFormed : Instr → Bool
  | .deviceReset _ => true
  | .odometry _ _ _ _ _ rest => payloadFits (6 + rest.length)
  | .odoLost => true
  | .fix _ _ _ _ _ _ rest => payloadFits (8 + rest.length)
  | .sample _ _ _ _ _ _ rest => payloadFits (7 + rest.length)
  | .sense _ _ => true
  | .localFrameDiscard _ _ => true
  | .driveAck _ _ _ => true
  | .stepExpiry => true
  | .verifyCompletion => true
  | .transmissionCompletion _ => true
  | .frameForward _ _ (.request payload) => payloadFits payload.length
  | .frameForward _ _ (.other kind payload) => !(1#8 ≤ kind && kind ≤ 4#8) && payloadFits payload.length
  | .checkError _ _ => true
  | .trailDrop _ _ payload => payloadFits payload.length
  | .requestUnknown _ _ [] => true
  | .requestUnknown _ _ (code :: args) => !catalogueCode code && payloadFits (1 + args.length)
  | .statusRead _ _ args => payloadFits (1 + args.length)
  | .paramSet _ _ args => payloadFits (1 + args.length)
  | .paramRead _ _ args => payloadFits (1 + args.length)
  | .modeSet _ _ args => payloadFits (1 + args.length)
  | .descWrite _ _ args => payloadFits (1 + args.length)
  | .descClear _ _ args => payloadFits (1 + args.length)
  | .descRead _ _ args => payloadFits (1 + args.length)
  | .sectionSelect _ _ args => payloadFits (1 + args.length)
  | .loadHead _ _ args => payloadFits (1 + args.length)
  | .loadTail _ _ args => payloadFits (1 + args.length)
  | .bankOpen _ _ args => payloadFits (1 + args.length)
  | .bankClose _ _ args => payloadFits (1 + args.length)
  | .bankErase _ _ args => payloadFits (1 + args.length)
  | .recordRead _ _ args => payloadFits (1 + args.length)
  | .strokeLoad _ _ args => payloadFits (1 + args.length)
  | .strokeRead _ _ args => payloadFits (1 + args.length)
  | .hold _ _ args => payloadFits (1 + args.length)
  | .release _ _ args => payloadFits (1 + args.length)
  | .resume _ _ args => payloadFits (1 + args.length)
  | .auditArm _ _ args => payloadFits (1 + args.length)
  | .featureMask _ _ args => payloadFits (1 + args.length)
  | .restart _ _ args => payloadFits (1 + args.length)

end Sys2Proof
end

