-- ==== Sys2Proof/Decode.lean ====
section
/-! DEFINITION. From bits to commands. No row of spec/opcode_table.json gives bits, so `decodeTableWord`
answers none. The frames' bytes spell commands by chapter 11: `decodeLine`, `decodeSensor` and `decodeDrive`
are total on any bytes, and the encoders after them write the bytes of a command. -/

namespace Sys2Proof

/-- The command a table word spells: the table gives no row any bits, so none. -/
def decodeTableWord (_nbits _w : Nat) : Option Instr := none

/-- The command a good REQUEST payload spells (11.2, request codes). -/
def decodeRequest (port : Port) (h : Header) (payload : List Byte) : Instr :=
  match payload with
  | [] => .requestUnknown port h []
  | code :: args =>
    if code = 1#8 then .statusRead port h args
    else if code = 2#8 then .paramSet port h args
    else if code = 3#8 then .paramRead port h args
    else if code = 4#8 then .modeSet port h args
    else if code = 5#8 then .descWrite port h args
    else if code = 6#8 then .descClear port h args
    else if code = 7#8 then .descRead port h args
    else if code = 8#8 then .loadHead port h args
    else if code = 9#8 then .loadTail port h args
    else if code = 10#8 then .bankOpen port h args
    else if code = 11#8 then .bankClose port h args
    else if code = 12#8 then .bankErase port h args
    else if code = 13#8 then .recordRead port h args
    else if code = 14#8 then .strokeLoad port h args
    else if code = 15#8 then .strokeRead port h args
    else if code = 16#8 then .sectionSelect port h args
    else if code = 17#8 then .hold port h args
    else if code = 18#8 then .release port h args
    else if code = 19#8 then .resume port h args
    else if code = 20#8 then .auditArm port h args
    else if code = 21#8 then .featureMask port h args
    else if code = 22#8 then .restart port h args
    else .requestUnknown port h (code :: args)

/-- The command that a good line frame of the given kind spells (11.1, 11.2). A payload shorter than its
kind's is a check error (R175). -/
def decodeKind (port : Port) (h : Header) (kind : Byte) (payload bytes : List Byte) : Instr :=
  if kind = 1#8 then
    match payload with
    | c2 :: c1 :: c0 :: v1 :: v0 :: dir :: rest =>
      .odometry port h (Machine.word24 c2 c1 c0) (Machine.word16 v1 v0) dir rest
    | _ => .checkError port bytes
  else if kind = 2#8 then
    match payload with
    | b2 :: b1 :: b0 :: p2 :: p1 :: p0 :: acc :: verdict :: rest =>
      .fix port h (Machine.word24 b2 b1 b0) (Machine.word24 p2 p1 p0) acc verdict rest
    | _ => .checkError port bytes
  else if kind = 3#8 then
    match payload with
    | c2 :: c1 :: c0 :: a1 :: a0 :: flags :: seq :: rest =>
      .sample port h (Machine.word24 c2 c1 c0) (Machine.word16 a1 a0) flags seq rest
    | _ => .checkError port bytes
  else if kind = 4#8 then decodeRequest port h payload
  else .frameForward port h (.other kind payload)

/-- The command that a string of bytes received on a line port spells (R154, R155, R175). -/
def decodeLine (port : Port) (bytes : List Byte) : Instr :=
  if Machine.lineFrameGood bytes then
    match bytes with
    | kind :: dest :: source :: level :: t1 :: t0 :: hop :: _ :: tail =>
      decodeKind port ⟨dest, source, level, Machine.word16 t1 t0, hop⟩ kind (tail.take (tail.length - 2)) bytes
    | _ => .checkError port bytes
  else .checkError port bytes

/-- The command that a string of bytes received on the sensor port spells (R79, R175). -/
def decodeSensor (bytes : List Byte) : Instr :=
  if Machine.senseFrameGood bytes then
    match bytes with
    | _ :: a1 :: a0 :: flags :: _ => .sense (Machine.word16 a1 a0) flags
    | _ => .localFrameDiscard .sensor bytes
  else .localFrameDiscard .sensor bytes

/-- The command that a string of bytes received on the drive port spells (R143, R175). -/
def decodeDrive (bytes : List Byte) : Instr :=
  if Machine.ackFrameGood bytes then
    match bytes with
    | _ :: seq :: x1 :: x0 :: status :: _ => .driveAck seq (Machine.word16 x1 x0) status
    | _ => .localFrameDiscard .drive bytes
  else .localFrameDiscard .drive bytes

/-- Where a command's frame arrives, with the bytes of the frame (11.1 to 11.3); `lineCut` and `localCut` are the
frames whose bytes began to arrive before the release of device reset (R176), and `event` is no frame. -/
inductive Arrival where
  | line (port : Port) (bytes : List Byte)
  | sensor (bytes : List Byte)
  | drive (bytes : List Byte)
  | lineCut (port : Port) (bytes : List Byte)
  | localCut (port : LocalPort) (bytes : List Byte)
  | event
  deriving DecidableEq, Repr

/-- The bytes of a REQUEST frame with the given code and arguments (11.2). -/
def requestArrival (code : Byte) (port : Port) (h : Header) (args : List Byte) : Arrival :=
  .line port (Machine.lineBytes 4#8 h (code :: args))

/-- The frame a command stands for, written from the layouts of chapter 11. A good frame is discarded only when it
began to arrive before the release of device reset (R176). -/
def encode : Instr → Arrival
  | .deviceReset _ => .event
  | .odometry port h c v d rest => .line port (Machine.lineBytes 1#8 h (Machine.odometryPayload c v d rest))
  | .odoLost => .event
  | .fix port h b p acc verdict rest => .line port (Machine.lineBytes 2#8 h (Machine.fixPayload b p acc verdict rest))
  | .sample port h c a f q rest => .line port (Machine.lineBytes 3#8 h (Machine.samplePayload c a f q rest))
  | .sense a f => .sensor (Machine.senseBytes a f)
  | .localFrameDiscard .sensor bytes =>
    if Machine.senseFrameGood bytes then .localCut .sensor bytes else .sensor bytes
  | .localFrameDiscard .drive bytes => if Machine.ackFrameGood bytes then .localCut .drive bytes else .drive bytes
  | .driveAck q x st => .drive (Machine.ackBytes q x st)
  | .stepExpiry => .event
  | .verifyCompletion => .event
  | .transmissionCompletion _ => .event
  | .frameForward port h (.request payload) => .line port (Machine.lineBytes 4#8 h payload)
  | .frameForward port h (.other kind payload) => .line port (Machine.lineBytes kind h payload)
  | .checkError port bytes => if Machine.lineFrameGood bytes then .lineCut port bytes else .line port bytes
  | .trailDrop port h payload => .line port (Machine.lineBytes 4#8 h payload)
  | .requestUnknown port h payload => .line port (Machine.lineBytes 4#8 h payload)
  | .statusRead port h args => requestArrival 1#8 port h args
  | .paramSet port h args => requestArrival 2#8 port h args
  | .paramRead port h args => requestArrival 3#8 port h args
  | .modeSet port h args => requestArrival 4#8 port h args
  | .descWrite port h args => requestArrival 5#8 port h args
  | .descClear port h args => requestArrival 6#8 port h args
  | .descRead port h args => requestArrival 7#8 port h args
  | .loadHead port h args => requestArrival 8#8 port h args
  | .loadTail port h args => requestArrival 9#8 port h args
  | .bankOpen port h args => requestArrival 10#8 port h args
  | .bankClose port h args => requestArrival 11#8 port h args
  | .bankErase port h args => requestArrival 12#8 port h args
  | .recordRead port h args => requestArrival 13#8 port h args
  | .strokeLoad port h args => requestArrival 14#8 port h args
  | .strokeRead port h args => requestArrival 15#8 port h args
  | .sectionSelect port h args => requestArrival 16#8 port h args
  | .hold port h args => requestArrival 17#8 port h args
  | .release port h args => requestArrival 18#8 port h args
  | .resume port h args => requestArrival 19#8 port h args
  | .auditArm port h args => requestArrival 20#8 port h args
  | .featureMask port h args => requestArrival 21#8 port h args
  | .restart port h args => requestArrival 22#8 port h args

/-- The command that the bytes of an arrival spell; an event has no bytes. A frame that began to arrive before the
release of device reset is discarded as a check error whatever its bytes (R176), on a local port as R175 discards. -/
def decodeArrival : Arrival → Option Instr
  | .line port bytes => some (decodeLine port bytes)
  | .sensor bytes => some (decodeSensor bytes)
  | .drive bytes => some (decodeDrive bytes)
  | .lineCut port bytes => some (.checkError port bytes)
  | .localCut port bytes => some (.localFrameDiscard port bytes)
  | .event => none

end Sys2Proof
end

