-- ==== Sys2Proof/Config.lean ====
section
/-! DEFINITION. What the part fixes once (limits of its stores and ranges), and the free values: what the
spec leaves open. A free value has no body, so nothing in Lean can evaluate it. -/

namespace Sys2Proof.Config

/-- The last chainage of a route (00, "Units and ranges"). -/
def maxChainage : Nat := 16777215

/-- The highest speed held (00, "Units and ranges"; R3). -/
def maxSpeed : Nat := 9000

/-- Most entries of the preview queue (R78). -/
def queueDepth : Nat := 512

/-- Most frames of a forwarding queue (R157). -/
def forwardDepth : Nat := 16

/-- Most frames of an own-frame queue (R157). -/
def ownDepth : Nat := 8

/-- DESIGN CHOICE (entry 1, safe): the clock counts half microseconds, so that 1 ms and the
19.5 µs of R53 are whole numbers of ticks. -/
def ticksPerMs : Nat := 2000

/-- The ticks R53 allows for each record examined: 19.5 µs (entry 1). -/
def ticksPerRecord : Nat := 39

/-- FREE VALUE (R171, R172; entry 3): the start count of 0 .. 7 that the step audit draws. -/
opaque auditDraw : Nat → BitVec 3

/-- FREE VALUE (entry 1): which of several timer events due at one instant is taken first; the
spec admits every order (R97, R13, R53, the tables of meetings). -/
opaque eventChoice : Nat → Nat

/-- FREE VALUE (R161, R162; entry 4): the request code carried by the reply to a REQUEST frame
whose payload holds no request code. -/
opaque missingCode : Nat → Byte

end Sys2Proof.Config
end

