-- ==== Sys2Proof/Machine/State.lean ====
section
/-! DEFINITION. The state of the DT-44: everything the spec gives each of its nine blocks, the frames that
wait on the line, the parameters, the clock, and the queue of waiting commands. `State.reset` is the
state after device reset. -/

namespace Sys2Proof.Machine

/-! ### Names and small data -/

/-- Direction of travel (00, "Directions"). -/
inductive Direction where
  | up
  | down
  deriving DecidableEq, Repr

/-- The six tilt modes (07; codes in 11.2). -/
inductive Mode where
  | off
  | centring
  | reactive
  | predictive
  | hold
  | fault
  deriving DecidableEq, Repr

/-- The modes a MODE SET may name, and that a centring target, hold return mode or saved mode may be (R119). -/
inductive ChosenMode where
  | off
  | reactive
  | predictive
  deriving DecidableEq, Repr

/-- State of the odometry-loss watchdog (R13). -/
inductive Watchdog where
  | idle
  | running
  deriving DecidableEq, Repr

/-- The four causes of FAULT (07, 7.7). -/
inductive FaultCause where
  | driveSilent
  | driveFault
  | odoLost
  | lineTurn
  deriving DecidableEq, Repr

/-- Status of an acknowledgement, after any other code is taken as FAULT (R144). -/
inductive AckStatus where
  | ok
  | endStop
  | fault
  deriving DecidableEq, Repr

/-- Reason of a MODE report (R123). -/
inductive ModeReason where
  | modeSet
  | centred
  | hold
  | release
  | fault
  | resume
  | mask
  | restart
  deriving DecidableEq, Repr

/-- Settle outcome of a HOLD reply (07, 7.6). -/
inductive SettleOutcome where
  | immediate
  | settled
  | faulted
  | released
  deriving DecidableEq, Repr

/-- Unit of a descriptor's length field (R21). -/
inductive Granularity where
  | fine
  | coarse
  deriving DecidableEq, Repr

/-- Kind of section, with the optional part the kind holds (R21). -/
inductive SectionKind where
  | invalid
  | curveList (bank : Fin 4) (first : Nat) (count : Nat)
  | plain
  | noTilt
  | reduced (limit : Nat)
  deriving DecidableEq, Repr

/-- A present descriptor (R21). A selector not listed in the table is not present, with write level 3. -/
structure Descriptor where
  kind : SectionKind
  base : Nat
  lengthField : Nat
  granularity : Granularity
  nextUp : Nat
  nextDown : Nat
  writeLevel : Nat
  deriving DecidableEq, Repr

/-- The record cursor (R30). -/
inductive Cursor where
  | unplaced
  | atRecord (i : Nat)
  | exhausted
  deriving DecidableEq, Repr

/-- The causes of the entry checks (R35). -/
inductive EntryCause where
  | sectionAbsent
  | sectionType
  | bankNotOpen
  | sectionRange
  deriving DecidableEq, Repr

/-- Why the active selector last became null (R20). -/
inductive NullCause where
  | reset
  | select
  | entry (cause : EntryCause)
  | sectionLost
  deriving DecidableEq, Repr

/-- Why restrictions are unknown (R62, R72). -/
inductive UnknownCause where
  | position
  | noSection
  | noNext
  | entry (cause : EntryCause)
  deriving DecidableEq, Repr

/-- The restriction outcome of a route answer (R62). -/
inductive RestrictionOutcome where
  | known
  | unknown (cause : UnknownCause)
  deriving DecidableEq, Repr

/-- Where a restriction comes from (R63): a selector, with the record index, or none for SECTION. -/
structure RestrictionSource where
  selector : Nat
  record : Option Nat
  deriving DecidableEq, Repr

/-- A curve record (R39); `comp` and `limit` are the optional parts, present as HAS_COMP and HAS_LIMIT say. -/
structure CurveRecord where
  start : Nat
  entry : Nat
  body : Nat
  exit : Nat
  kappa : Int
  cant : Int
  noTilt : Bool
  comp : Option Nat
  limit : Option Nat
  deriving DecidableEq, Repr

/-- A present record position as a load carries it (11.2, 17 bytes), before the clamps of R40. -/
structure CarriedRecord where
  noTilt : Bool
  hasComp : Bool
  hasLimit : Bool
  start : Word24
  entry : Word16
  body : Word16
  exit : Word16
  kappa : Word16
  cant : Word16
  comp : Byte
  limit : Word16
  deriving DecidableEq, Repr

/-- State of a bank (03, 3.2). -/
inductive BankState where
  | closed
  | opening
  | opened
  | failed
  deriving DecidableEq, Repr

/-- Failure reason of a verification (R52). -/
inductive VerifyReason where
  | unwritten
  | curvature
  | cant
  | cantSign
  | overlap
  deriving DecidableEq, Repr

/-- Outcome of a bank's last verification (R41). -/
inductive LastVerification where
  | none
  | pass (n : Nat)
  | fail (n : Nat) (index : Nat) (reason : VerifyReason)
  | abandoned (n : Nat)
  deriving DecidableEq, Repr

/-- Open result of a completing load request (R48). -/
inductive OpenResult where
  | notAsked
  | done
  | busy
  | badArg
  deriving DecidableEq, Repr

/-- Result codes, in the order of R161 (DONE is 0, UNKNOWN is 12). -/
inductive ResultCode where
  | done
  | clamped
  | level
  | badArg
  | busy
  | inUse
  | absent
  | bankClosed
  | pendingLoad
  | masked
  | modeRefused
  | notCleared
  | unknown
  deriving DecidableEq, Repr

/-- Availability of the predictive source, with the reason when it is not available (R104). -/
inductive PredictiveAvailability where
  | available
  | mode
  | position
  | noSection
  | disagree
  deriving DecidableEq, Repr

/-- Availability of the reactive source, with the reason when it is not available (R105). -/
inductive ReactiveAvailability where
  | available
  | mode
  | gap
  | invalid
  deriving DecidableEq, Repr

/-- Rounding mode of the forward stroke conversion (R148). -/
inductive Rounding where
  | nearest
  | truncate
  deriving DecidableEq, Repr

/-- The features that FEATURE MASK may withdraw; set means masked (R166). -/
structure Features where
  predictive : Bool := false
  audit : Bool := false
  load : Bool := false
  trailRequests : Bool := false
  deriving DecidableEq, Repr

/-! ### Parameters -/

/-- The parameters (R2, R63, R77, R96, R120), each with its default. The floors are in the line interface. -/
structure Params where
  offsetA : Nat := 0
  offsetB : Nat := 0
  lagMs : Nat := 300
  trimDm : Int := 0
  sensorLeadDm : Int := 0
  odoTimeout : Nat := 200
  odoLostMs : Nat := 1000
  driftPermille : Nat := 10
  uMax : Nat := 20
  tiltLimit : Nat := 800
  reducedLimit : Nat := 200
  strideDm : Nat := 10
  stepMs : Nat := 10
  compPct : Nat := 60
  wPred : Nat := 75
  disagreeCdeg : Nat := 150
  disagreeSteps : Nat := 20
  holdSteps : Nat := 50
  vMin : Nat := 1111
  rateMax : Nat := 400
  holdTol : Nat := 10
  deriving DecidableEq, Repr

/-! ### The blocks -/

/-- The clock (entry 1) and the instants kept on it: the arrival instant (R1) and the next expiry of the
step timer (R95). The watchdog's expiry is the arrival instant plus odo_lost_ms (R13). -/
structure Clock where
  now : Nat := 0
  arrival : Option Nat := none
  stepDue : Nat := 10 * Config.ticksPerMs
  deriving DecidableEq, Repr

/-- The position unit (R1); the arrival instant is in the clock and the upstream port in the line. -/
structure PositionUnit where
  t0 : Nat := 0
  v : Nat := 0
  dir : Direction := .up
  seen : Bool := false
  watchdog : Watchdog := .idle
  fixOffset : Int := 0
  uFix : Nat := 65535
  sinceFix : Nat := 0
  u : Nat := 65535
  rejections : Nat := 0
  lead : Bool := false
  fixesApplied : Nat := 0
  unmarkedIgnored : Nat := 0
  reverseIgnored : Nat := 0
  deriving DecidableEq, Repr

/-- The section walker (R20). `descs` lists the present descriptors by selector; `active` 0 is the null
selector. -/
structure Walker where
  descs : List (Nat × Descriptor) := []
  active : Nat := 0
  cursor : Cursor := .unplaced
  lastPoint : Option Nat := none
  lastDir : Option Direction := none
  nullCause : NullCause := .reset
  lostAt : Nat := 0
  losses : Nat := 0
  deriving DecidableEq, Repr

/-- The outcome of the last route answer (R63). -/
structure Lookahead where
  outcome : RestrictionOutcome := .unknown .position
  lowest : Option Nat := none
  source : Option RestrictionSource := none
  lEff : Nat := 200
  failures : Nat := 0
  deriving DecidableEq, Repr

/-- A bank (R41): its written slots by index, its state, its record count and its last verification. -/
structure Bank where
  slots : List (Nat × CurveRecord) := []
  state : BankState := .closed
  count : Nat := 0
  last : LastVerification := .none
  deriving DecidableEq, Repr

/-- A staged length-8 burst (R41, R46): four positions as carried, each present or absent. -/
structure StagedBurst where
  bank : Fin 4
  group : Nat
  start : Nat
  positions : List (Option CarriedRecord)
  deriving DecidableEq, Repr

/-- The verifier while busy (R41, R51); `dueBy` is the model's: the latest instant of completion (R53).
`nextIndex` stays at the index of the start until the completion, which is one event (entry 16). -/
structure Verification where
  bank : Fin 4
  expected : Nat
  nextIndex : Nat
  dueBy : Nat
  deriving DecidableEq, Repr

/-- The curve store (R41). -/
structure CurveStore where
  bank0 : Bank := {}
  bank1 : Bank := {}
  bank2 : Bank := {}
  bank3 : Bank := {}
  staged : Option StagedBurst := none
  verifier : Option Verification := none
  interruptions : Nat := 0
  deriving DecidableEq, Repr

/-- A preview entry (R78). -/
structure PreviewEntry where
  chainage : Nat
  accel : Int
  valid : Bool
  seq : Byte
  deriving DecidableEq, Repr

/-- The preview queue (R76); `entries` stand oldest first. -/
structure PreviewQueue where
  entries : List PreviewEntry := []
  lastOriginated : Option Nat := none
  nextSeq : Byte := 0#8
  senseAccel : Int := 0
  senseValid : Bool := false
  senseClamps : Nat := 0
  originated : Nat := 0
  appended : Nat := 0
  replacements : Nat := 0
  stale : Nat := 0
  overruns : Nat := 0
  seqGaps : Nat := 0
  ignored : Nat := 0
  flushes : Nat := 0
  shiftLosses : Nat := 0
  gapAnswers : Nat := 0
  invalidAnswers : Nat := 0
  deriving DecidableEq, Repr

/-- The step summary (R99). `command` none is QUERY. -/
structure StepSummary where
  mode : Mode
  car : Nat
  v : Nat
  active : Nat
  predictive : PredictiveAvailability
  reactive : ReactiveAvailability
  aP : Option Int
  aR : Option Int
  k : Nat
  thetaP : Option Int
  thetaR : Option Int
  thetaB : Int
  target : Int
  lEff : Nat
  gated : Bool
  limited : Bool
  restrictionUnknown : Bool
  fading : Bool
  rate : Bool
  carTarget : Int
  command : Option Int
  deriving DecidableEq, Repr

/-- The demand unit (R95); the step timer is in the clock. -/
structure DemandUnit where
  thetaB : Int := 0
  runCount : Nat := 0
  latch : Bool := false
  fadeCount : Nat := 0
  latchSettings : Nat := 0
  lastStep : Option StepSummary := none
  deriving DecidableEq, Repr

/-- The mode controller (R119), but for the pending HOLD reply, which is `State.holdReply`. `prevCommand`
none is unknown, `firstCause` none is NONE, `ackStatus` none is NONE. -/
structure ModeController where
  mode : Mode := .centring
  target : ChosenMode := .off
  holdFlag : Bool := false
  holdReturn : Option ChosenMode := none
  settle : Nat := 0
  firstCause : Option FaultCause := none
  further : Nat := 0
  saved : ChosenMode := .off
  faultsTaken : Nat := 0
  prevCommand : Option Int := none
  ackSeen : Bool := false
  odoSinceFault : Bool := false
  ackStatus : Option AckStatus := none
  odoSpeed : Nat := 0
  deriving DecidableEq, Repr

/-- The pending HOLD reply: tag, source address and port of arrival of the request (R119). -/
structure PendingHold where
  tag : Word16
  source : Byte
  port : Port
  deriving DecidableEq, Repr

/-- Kind of a DRIVE frame; a MOVE has its command angle and target stroke (R140). -/
inductive DriveKind where
  | move (angle : Int) (stroke : Int)
  | query
  deriving DecidableEq, Repr

/-- The outstanding DRIVE (R140). -/
structure Drive where
  seq : Byte
  kind : DriveKind
  answered : Bool
  deriving DecidableEq, Repr

/-- The drive port (R140), but for the stroke table, which is `State.strokes`. -/
structure DrivePort where
  rounding : Rounding := .nearest
  tableLoaded : Bool := false
  seq : Byte := 0#8
  outstanding : Option Drive := none
  missCount : Nat := 0
  lastStroke : Option Int := none
  lastAngle : Option Int := none
  lastStatus : Option AckStatus := none
  endStop : Bool := false
  sent : Nat := 0
  acks : Nat := 0
  late : Nat := 0
  misses : Nat := 0
  silences : Nat := 0
  endStops : Nat := 0
  faults : Nat := 0
  clamps : Nat := 0
  deriving DecidableEq, Repr

/-- Completion of an audit record (R172, R173). -/
inductive Completion where
  | pending
  | complete (stroke : Int) (angle : Int) (status : AckStatus)
  | noAck
  | fault
  deriving DecidableEq, Repr

/-- The audit record (R172, R173). `command` none is QUERY, `stroke` none for a QUERY. -/
structure AuditRecord where
  stepNumber : BitVec 32
  mode : Mode
  car : Nat
  v : Nat
  active : Nat
  predictive : PredictiveAvailability
  reactive : ReactiveAvailability
  thetaP : Option Int
  thetaR : Option Int
  thetaB : Int
  lEff : Nat
  rate : Bool
  limited : Bool
  restrictionUnknown : Bool
  command : Option Int
  seq : Byte
  isMove : Bool
  stroke : Option Int
  senseAccel : Int
  senseValid : Bool
  completion : Completion
  deriving DecidableEq, Repr

/-- The pending tag: sequence and kind of the tagged step's DRIVE (R170). -/
structure AuditTag where
  seq : Byte
  isMove : Bool
  deriving DecidableEq, Repr

/-- The step audit (R170). -/
structure StepAudit where
  armed : Bool := false
  period : Option Nat := none
  counter : Nat := 0
  pending : Option AuditTag := none
  record : Option AuditRecord := none
  valid : Bool := false
  stepNumber : BitVec 32 := 0#32
  deriving DecidableEq, Repr

/-! ### Replies, reports and frames -/

/-- A MODE report (R123). -/
structure ModeReport where
  new : Mode
  previous : Mode
  reason : ModeReason
  target : Option ChosenMode
  holdReturn : Option ChosenMode
  saved : Option ChosenMode
  holdFlag : Bool
  prevCommand : Option Int
  deriving DecidableEq, Repr

/-- A FAULT report (R135); `further` false is ENTERED, true is FURTHER. -/
structure FaultReport where
  cause : FaultCause
  further : Bool
  firstCause : Option FaultCause
  furtherCount : Nat
  saved : ChosenMode
  holdFlag : Bool
  prevCommand : Option Int
  ackStatus : Option AckStatus
  odoSpeed : Nat
  deriving DecidableEq, Repr

/-- A DISAGREE report (R109). -/
structure DisagreeReport where
  thetaP : Int
  thetaR : Int
  run : Nat
  car : Nat
  active : Nat
  deriving DecidableEq, Repr

/-- The reports of R163. A BANK report carries the bank and the outcome, which is never NONE (R55). -/
inductive Report where
  | mode (r : ModeReport)
  | fault (r : FaultReport)
  | bank (bank : Fin 4) (outcome : LastVerification)
  | disagree (r : DisagreeReport)
  | audit (r : AuditRecord)
  deriving DecidableEq, Repr

/-- What the LINE page shows of one port (R153, R164): the queues by the number of their frames, the transmitter by
whether it is SENDING (DESIGN CHOICE, entry 24). -/
structure PortPage where
  forwarding : Nat
  own : Nat
  sending : Bool
  streak : Nat
  received : Nat
  checkErrors : Nat
  overrun : Nat
  ownDrop : Nat
  deriving DecidableEq, Repr

/-- The LINE page (R164). -/
structure LinePage where
  upstream : Option Port
  floorA : Nat
  floorB : Nat
  masked : Features
  portA : PortPage
  portB : PortPage
  reportTag : Word16
  trailDrop : Nat
  requestsTaken : Nat
  levelRefusals : Nat
  deriving DecidableEq, Repr

/-- The POSITION page (R1): every item but the arrival instant, the upstream port and three flags. -/
structure PositionPage where
  items : PositionUnit
  upstream : Option Port
  stale : Bool
  range : Bool
  uExceeds : Bool
  deriving DecidableEq, Repr

/-- The WALKER page (R20, R63). -/
structure WalkerPage where
  active : Nat
  cursor : Cursor
  nullCause : NullCause
  lostAt : Nat
  losses : Nat
  look : Lookahead
  deriving DecidableEq, Repr

/-- What the STORE page shows of one bank (R41). -/
structure BankPage where
  state : BankState
  count : Nat
  written : Nat
  last : LastVerification
  deriving DecidableEq, Repr

/-- The STORE page (R41). -/
structure StorePage where
  bank0 : BankPage
  bank1 : BankPage
  bank2 : BankPage
  bank3 : BankPage
  staged : Option (Fin 4 × Nat)
  interruptions : Nat
  deriving DecidableEq, Repr

/-- The QUEUE page (R76): `items` has no entries; their number and the oldest and newest stand beside it. -/
structure QueuePage where
  items : PreviewQueue
  number : Nat
  oldest : Option PreviewEntry
  newest : Option PreviewEntry
  deriving DecidableEq, Repr

/-- The AUDIT page (R170): every item of the table, the pending tag with its sequence and kind, the record only while
valid is set. -/
structure AuditPage where
  armed : Bool
  period : Option Nat
  counter : Nat
  pending : Option AuditTag
  record : Option AuditRecord
  valid : Bool
  stepNumber : BitVec 32
  deriving DecidableEq, Repr

/-- The page of a STATUS READ reply (R164). -/
inductive StatusPage where
  | line (p : LinePage)
  | position (p : PositionPage)
  | walker (p : WalkerPage)
  | store (p : StorePage)
  | queue (p : QueuePage)
  | demand (p : DemandUnit)
  | mode (p : ModeController) (holdPending : Bool)
  | drive (p : DrivePort)
  | audit (p : AuditPage)
  deriving DecidableEq, Repr

/-- The values applied to one position of a load burst where R40 stored them lower than carried, and none where it did
not (R161, R40). That they stand by position, and in this form, is a DESIGN CHOICE (entry 23). -/
structure AppliedValues where
  position : Nat
  comp : Option Nat
  limit : Option Nat
  deriving DecidableEq, Repr

/-- The payload of a reply, as the owning block gives it (R162). `capability` lists the features masked:
a feature is shown present while it is not (R164). -/
inductive ReplyPayload where
  /-- No payload. -/
  | empty
  /-- R2, R165: a parameter's value. -/
  | value (v : Int)
  /-- R164: STATUS READ. -/
  | status (page : StatusPage) (mode : Mode) (capability : Features) (address : Option Byte)
  /-- R24: the write level stored. -/
  | writeLevel (level : Nat)
  /-- R28: the descriptor's 17 bytes (11.2), and whether it is the active one. -/
  | descriptor (bytes : List Byte) (active : Bool)
  /-- R29: the active selector. -/
  | selector (active : Nat)
  /-- R45 to R48: note STAGED, slots written, open result; with CLAMPED also the values applied (R161). -/
  | load (staged : Bool) (written : Nat) (opened : OpenResult) (applied : List AppliedValues)
  /-- R59: the bank's state and the record position's 17 bytes (11.2). -/
  | record (state : BankState) (bytes : List Byte)
  /-- R150: the index at which a stroke table fails. -/
  | index (i : Nat)
  /-- R151: the stroke table, the rounding mode and table loaded. -/
  | strokes (table : List Int) (rounding : Rounding) (loaded : Bool)
  /-- R124: the mode held, with the centring target when it was CENTRING. -/
  | modeHeld (mode : Mode) (target : Option ChosenMode)
  /-- R128: the hold flag before, and the settle outcome. -/
  | hold (previousFlag : Bool) (outcome : SettleOutcome)
  /-- R130: the hold flag before. -/
  | holdFlag (previousFlag : Bool)
  /-- R134: the first cause. -/
  | cause (first : Option FaultCause)
  /-- R171: the period and the step number at the arming. -/
  | armed (period : Nat) (stepNumber : BitVec 32)
  /-- R166: the capability word after the request. -/
  | capability (masked : Features)
  deriving DecidableEq, Repr

/-- The payload of a line frame. The frames the spec lays out hold their fields and any further bytes as
received; a passed REPLY, REPORT or unknown kind holds its bytes; this node's own replies and reports
hold their contents (entry 9). -/
inductive Body where
  | odometry (chainage : Word24) (speed : Word16) (direction : Byte) (rest : List Byte)
  | fix (beacon : Word24) (passage : Word24) (accuracy : Byte) (verdict : Byte) (rest : List Byte)
  | sample (chainage : Word24) (accel : Word16) (flags : Byte) (seq : Byte) (rest : List Byte)
  | request (payload : List Byte)
  | raw (kind : Byte) (payload : List Byte)
  | reply (code : Byte) (result : ResultCode) (payload : ReplyPayload)
  | report (r : Report)
  deriving DecidableEq, Repr

/-- A line frame in a queue or a transmitter; its check sequence is formed as it leaves (R154). -/
structure Frame where
  h : Header
  body : Body
  deriving DecidableEq, Repr

/-- One line port (R153): its queues, transmitter (none is IDLE), streak and counts. -/
structure PortState where
  fwd : List Frame := []
  own : List Frame := []
  sending : Option Frame := none
  streak : Nat := 0
  received : Nat := 0
  checkErrors : Nat := 0
  overrun : Nat := 0
  ownDrop : Nat := 0
  deriving DecidableEq, Repr

/-- The line interface (R153). `upstream` none is unknown; `address` none is a node without an address. -/
structure LineInterface where
  upstream : Option Port := none
  address : Option Byte := none
  floorA : Nat := 0
  floorB : Nat := 0
  masked : Features := {}
  portA : PortState := {}
  portB : PortState := {}
  reportTag : Word16 := 0#16
  trailDrop : Nat := 0
  requestsTaken : Nat := 0
  levelRefusals : Nat := 0
  deriving DecidableEq, Repr

/-- The default stroke table S[i] = (i − 8) × 110 (R147). -/
def defaultStrokes : List Int :=
  [-880, -770, -660, -550, -440, -330, -220, -110, 0, 110, 220, 330, 440, 550, 660, 770, 880]

/-- The state of the DT-44, with the queue of waiting commands and the count of free values taken. `held` is set
while device reset holds the part (R176). -/
structure State where
  clock : Clock := {}
  line : LineInterface := {}
  pos : PositionUnit := {}
  params : Params := {}
  walker : Walker := {}
  look : Lookahead := {}
  store : CurveStore := {}
  queue : PreviewQueue := {}
  demand : DemandUnit := {}
  mode : ModeController := {}
  holdReply : Option PendingHold := none
  drive : DrivePort := {}
  strokes : List Int := defaultStrokes
  audit : StepAudit := {}
  held : Bool := false
  freeCount : Nat := 0
  pending : List Instr := []
  deriving DecidableEq, Repr

/-- The machine at the release of device reset (R1, R20, R41, R63, R76, R95, R119, R140, R153, R170), with the straps
unconnected (R176; entry 2), at instant 0 (entry 1), and no command waiting. -/
def State.reset : State := {}

/-- No command stops the part (R161: every request has a reply; R131: a fault is a mode), so no fault
exists. Safe: a closed inductive without constructors. -/
inductive Fault where
  deriving DecidableEq, Repr

/-- Refusals of the model itself. -/
inductive Refusal where
  /-- Raised by `exec` alone, for a command that has no meaning yet. Safe: the run stops. -/
  | notModelled (mnemonic : String)
  deriving DecidableEq, Repr

/-- The outcome of a command on the machine. -/
abbrev Result := Host.Outcome State Fault Refusal

end Sys2Proof.Machine
end

