-- ==== Sys2Proof/Machine/Ops.lean ====
section
/-! DEFINITION. The shared operations: arithmetic with the spec's roundings, saturating counts, the addressed
stores (curve slots and descriptors), banks, and the part's own fields read as formulas. -/

namespace Sys2Proof.Machine

/-! ### Arithmetic (00, "Rounding") -/

/-- Division rounding half away from zero, the convention where no stage states otherwise. -/
def roundDiv (n : Int) (d : Nat) : Int :=
  if n < 0 then -(((2 * n.natAbs + d) / (2 * d) : Nat) : Int) else ((2 * n.natAbs + d) / (2 * d) : Nat)

/-- Division rounding up (R14, R69). -/
def ceilDiv (n d : Nat) : Nat := (n + (d - 1)) / d

/-- Division rounding toward zero (R66). -/
def truncDiv (n : Int) (d : Nat) : Int := Int.tdiv n d

/-- x limited to lo .. hi. -/
def limitTo (lo hi x : Int) : Int := max lo (min hi x)

/-- clamp(x, ±L) (00, "Units and ranges"). -/
def clampTo (bound : Nat) (x : Int) : Int := limitTo (-(bound : Int)) bound x

/-- A chainage saturated to 0 .. 16,777,215 (R9, R10, R69). -/
def saturate (x : Int) : Nat := (limitTo 0 Config.maxChainage x).toNat

/-- A count raised by one that holds at 65,535. -/
def count16 (n : Nat) : Nat := min 65535 (n + 1)

/-- A count raised by one that holds at 255 (R132). -/
def count8 (n : Nat) : Nat := min 255 (n + 1)

/-! ### Addressed stores -/

/-- The record at an index, none when the index is not listed. -/
def slotGet {α : Type} : List (Nat × α) → Nat → Option α
  | [], _ => none
  | (b, w) :: m, i => if i = b then some w else slotGet m i

/-- The store with a record written at an index, indices kept rising. -/
def slotSet {α : Type} : List (Nat × α) → Nat → α → List (Nat × α)
  | [], i, x => [(i, x)]
  | (b, w) :: m, i, x =>
    if i < b then (i, x) :: (b, w) :: m
    else if i = b then (i, x) :: m
    else (b, w) :: slotSet m i x

/-- The store with an index dropped. -/
def slotErase {α : Type} (m : List (Nat × α)) (i : Nat) : List (Nat × α) :=
  m.filter (fun e => e.1 != i)

/-- The canonical form: indices strictly rising and below the store's size. -/
def slotsWf {α : Type} (size : Nat) : List (Nat × α) → Bool
  | [] => true
  | [(a, _)] => a < size
  | (a, _) :: (b, w) :: m => a < b && slotsWf size ((b, w) :: m)

/-- The bank of a number (R41). -/
def bankOf (c : CurveStore) (b : Fin 4) : Bank :=
  match b with
  | 0 => c.bank0
  | 1 => c.bank1
  | 2 => c.bank2
  | 3 => c.bank3

/-- The store with a bank replaced. -/
def setBank (c : CurveStore) (b : Fin 4) (x : Bank) : CurveStore :=
  match b with
  | 0 => { c with bank0 := x }
  | 1 => { c with bank1 := x }
  | 2 => { c with bank2 := x }
  | 3 => { c with bank3 := x }

/-- Every addressed store is in canonical form: the descriptor table holds selectors 1 .. 63 (R20: entry 0
is permanently not present), each bank slots 0 .. 511 (R41). -/
def Memory.wf (s : State) : Bool :=
  slotsWf 64 s.walker.descs && (s.walker.descs.all fun e => e.1 != 0)
    && slotsWf 512 s.store.bank0.slots && slotsWf 512 s.store.bank1.slots
    && slotsWf 512 s.store.bank2.slots && slotsWf 512 s.store.bank3.slots

/-! ### Names of the spec as formulas -/

/-- The other line port. -/
def otherPort : Port → Port
  | .a => .b
  | .b => .a

/-- The direction factor d (00, "Directions"). -/
def dirFactor : Direction → Int
  | .up => 1
  | .down => -1

/-- The mode a chosen mode names. -/
def chosenToMode : ChosenMode → Mode
  | .off => .off
  | .reactive => .reactive
  | .predictive => .predictive

/-- The modes that tilt (07). -/
def tilting (m : Mode) : Bool := m = .reactive || m = .predictive

/-- The expiry instant of the running watchdog: the arrival instant plus odo_lost_ms (R13); none when it is
IDLE or no frame has been taken. -/
def watchdogDue (s : State) : Option Nat :=
  match s.pos.watchdog with
  | .idle => none
  | .running => s.clock.arrival.map (· + s.params.odoLostMs * Config.ticksPerMs)

/-- An instant has been reached. -/
def reached (s : State) (t : Option Nat) : Bool :=
  match t with
  | some t => decide (t ≤ s.clock.now)
  | none => false

end Sys2Proof.Machine
end

