-- ==== Sys2Proof/Machine/Operands.lean ====
section
/-! DEFINITION. The operand forms: a request's argument bytes read as the fields of 11.2, and the byte layouts
of a descriptor and of a curve record position as the part returns them. -/

namespace Sys2Proof.Machine

/-- The argument byte at an offset. -/
def argByte (args : List Byte) (i : Nat) : Byte := args.getD i 0#8

/-- An unsigned one-byte field. -/
def arg8 (args : List Byte) (i : Nat) : Nat := (argByte args i).toNat

/-- A two-byte field, most significant byte first (11). -/
def argWord16 (args : List Byte) (i : Nat) : Word16 := word16 (argByte args i) (argByte args (i + 1))

/-- An unsigned two-byte field. -/
def arg16 (args : List Byte) (i : Nat) : Nat := (argWord16 args i).toNat

/-- A signed two-byte field, two's complement (11). -/
def argInt16 (args : List Byte) (i : Nat) : Int := (argWord16 args i).toInt

/-- A three-byte field, most significant byte first (11). -/
def argWord24 (args : List Byte) (i : Nat) : Word24 :=
  word24 (argByte args i) (argByte args (i + 1)) (argByte args (i + 2))

/-- An unsigned three-byte field. -/
def arg24 (args : List Byte) (i : Nat) : Nat := (argWord24 args i).toNat

/-- One bit of a one-byte field. -/
def argBit (args : List Byte) (i bit : Nat) : Bool := (argByte args i).getLsbD bit

/-! ### Descriptors (11.2, 17 bytes) -/

/-- The fields of a DESC WRITE as carried. -/
structure DescFields where
  selector : Nat
  typeCode : Nat
  granularity : Granularity
  base : Nat
  lengthField : Nat
  nextUp : Nat
  nextDown : Nat
  writeLevel : Nat
  bank : Nat
  first : Nat
  count : Nat
  limit : Nat
  deriving DecidableEq, Repr

/-- The 17 argument bytes of DESC WRITE as fields (11.2): bits 1 .. 3 of byte 1 are the type, bit 4 the
granularity; its bit 0 is used by DESC READ only. Its bits 5 .. 7 have no meaning in 11.2 and are ignored (DESIGN
CHOICE, entry 21). -/
def descFields (args : List Byte) : DescFields where
  selector := arg8 args 0
  typeCode := ((argByte args 1).extractLsb' 1 3).toNat
  granularity := if argBit args 1 4 then .coarse else .fine
  base := arg24 args 2
  lengthField := arg16 args 5
  nextUp := arg8 args 7
  nextDown := arg8 args 8
  writeLevel := arg8 args 9
  bank := arg8 args 10
  first := arg16 args 11
  count := arg16 args 13
  limit := arg16 args 15

/-- The type code of a section kind (R21). -/
def kindCode : SectionKind → Nat
  | .invalid => 0
  | .curveList _ _ _ => 1
  | .plain => 2
  | .noTilt => 3
  | .reduced _ => 4

/-- The optional part of a descriptor as bytes 10 .. 16, an absent part as 0 (11.2). -/
def kindBytes : SectionKind → List Byte
  | .curveList bank first count =>
    [BitVec.ofNat 8 bank] ++ bytes16 (BitVec.ofNat 16 first) ++ bytes16 (BitVec.ofNat 16 count) ++ bytes16 0#16
  | .reduced limit => [0#8] ++ bytes16 0#16 ++ bytes16 0#16 ++ bytes16 (BitVec.ofNat 16 limit)
  | _ => List.replicate 7 0#8

/-- The flags byte of a returned descriptor: bit 0 present, bits 1 .. 3 type, bit 4 granularity (11.2). -/
def descFlags (d : Descriptor) : Byte :=
  BitVec.ofNat 8 (1 + 2 * kindCode d.kind + (if d.granularity = .coarse then 16 else 0))

/-- A selector's descriptor as DESC READ returns it (R28, 11.2). One not present shows only its flag and write
level 3; the bytes of its other fields, and the bits 11.2 gives no meaning, are 0 (DESIGN CHOICE, entries 21
and 22). -/
def descriptorBytes (selector : Nat) : Option Descriptor → List Byte
  | none => [BitVec.ofNat 8 selector] ++ List.replicate 8 0#8 ++ [3#8] ++ List.replicate 7 0#8
  | some d =>
    [BitVec.ofNat 8 selector, descFlags d] ++ bytes24 (BitVec.ofNat 24 d.base)
      ++ bytes16 (BitVec.ofNat 16 d.lengthField)
      ++ [BitVec.ofNat 8 d.nextUp, BitVec.ofNat 8 d.nextDown, BitVec.ofNat 8 d.writeLevel]
      ++ kindBytes d.kind

/-! ### Curve record positions (11.2, 17 bytes) -/

/-- The record position at an offset of a load's arguments: absent when bit 0 of its first byte is clear. Bits 4 .. 7
of that byte, which 11.2 gives no meaning, are ignored (DESIGN CHOICE, entry 21). -/
def argPosition (args : List Byte) (i : Nat) : Option CarriedRecord :=
  if argBit args i 0 then
    some {
      noTilt := argBit args i 1
      hasComp := argBit args i 2
      hasLimit := argBit args i 3
      start := argWord24 args (i + 1)
      entry := argWord16 args (i + 4)
      body := argWord16 args (i + 6)
      exit := argWord16 args (i + 8)
      kappa := argWord16 args (i + 10)
      cant := argWord16 args (i + 12)
      comp := argByte args (i + 14)
      limit := argWord16 args (i + 15) }
  else none

/-- The four record positions at an offset of a load's arguments. -/
def argPositions (args : List Byte) (i : Nat) : List (Option CarriedRecord) :=
  [argPosition args i, argPosition args (i + 17), argPosition args (i + 34), argPosition args (i + 51)]

/-- A curve record as RECORD READ returns it, bit 0 set for written (R59, 11.2). The bytes of an unwritten slot and of a
part the record does not have (entry 22) and bits 4 .. 7 of the first byte (entry 21) are 0 (DESIGN CHOICE). -/
def recordBytes : Option CurveRecord → List Byte
  | none => List.replicate 17 0#8
  | some r =>
    [BitVec.ofNat 8 (1 + (if r.noTilt then 2 else 0) + (if r.comp.isSome then 4 else 0)
        + (if r.limit.isSome then 8 else 0))]
      ++ bytes24 (BitVec.ofNat 24 r.start) ++ bytes16 (BitVec.ofNat 16 r.entry)
      ++ bytes16 (BitVec.ofNat 16 r.body) ++ bytes16 (BitVec.ofNat 16 r.exit)
      ++ bytes16 (BitVec.ofInt 16 r.kappa) ++ bytes16 (BitVec.ofInt 16 r.cant)
      ++ [BitVec.ofNat 8 (r.comp.getD 0)] ++ bytes16 (BitVec.ofNat 16 (r.limit.getD 0))

/-! ### Codes of 11.2 -/

/-- The mode a target code names among those MODE SET may name (R124 check 1; 11.2 mode codes). -/
def targetOfCode (code : Nat) : Option ChosenMode :=
  match code with
  | 0 => some .off
  | 2 => some .reactive
  | 3 => some .predictive
  | _ => none

/-- The status of a DRIVE-ACK; any code other than 0 and 1 is FAULT (R144). -/
def ackStatusOf (code : Byte) : AckStatus :=
  if code = 0#8 then .ok else if code = 1#8 then .endStop else .fault

/-- The seventeen strokes of a STROKE LOAD (11.2). -/
def argStrokes (args : List Byte) : List Int := (List.range 17).map fun i => argInt16 args (2 * i)

/-- The rounding mode a code names (11.2). -/
def roundingOfCode (code : Nat) : Option Rounding :=
  match code with
  | 0 => some .nearest
  | 1 => some .truncate
  | _ => none

/-- The parameters by identifier (11.2). -/
inductive Param where
  | offsetA | offsetB | lagMs | trimDm | sensorLeadDm | odoTimeout | odoLostMs | driftPermille
  | uMax | tiltLimit | reducedLimit | strideDm | stepMs | compPct | wPred | disagreeCdeg
  | disagreeSteps | holdSteps | vMin | rateMax | holdTol | floorA | floorB
  deriving DecidableEq, Repr

/-- The parameter an identifier names (11.2). -/
def paramOfCode (code : Nat) : Option Param :=
  match code with
  | 1 => some .offsetA
  | 2 => some .offsetB
  | 3 => some .lagMs
  | 4 => some .trimDm
  | 5 => some .sensorLeadDm
  | 6 => some .odoTimeout
  | 7 => some .odoLostMs
  | 8 => some .driftPermille
  | 9 => some .uMax
  | 10 => some .tiltLimit
  | 11 => some .reducedLimit
  | 12 => some .strideDm
  | 13 => some .stepMs
  | 14 => some .compPct
  | 15 => some .wPred
  | 16 => some .disagreeCdeg
  | 17 => some .disagreeSteps
  | 18 => some .holdSteps
  | 19 => some .vMin
  | 20 => some .rateMax
  | 21 => some .holdTol
  | 22 => some .floorA
  | 23 => some .floorB
  | _ => none

end Sys2Proof.Machine
end

