-- ==== Sys2Proof/Machine/Line.lean ====
section
/-! DEFINITION. The line interface: queues and arbiter (R157, R158), forwarding (R154 to R156), replies and
reports (R162, R163), authority (R160) and the taking of a request (R161, R167). -/

namespace Sys2Proof.Machine

/-- The state of a line port. -/
def portOf (l : LineInterface) : Port → PortState
  | .a => l.portA
  | .b => l.portB

/-- The line interface with a port's state replaced. -/
def setPort (l : LineInterface) (p : Port) (x : PortState) : LineInterface :=
  match p with
  | .a => { l with portA := x }
  | .b => { l with portB := x }

/-- The state with one of its line ports changed. -/
def onPort (p : Port) (f : PortState → PortState) (s : State) : State :=
  { s with line := setPort s.line p (f (portOf s.line p)) }

/-- The arbiter: when the transmitter is IDLE it takes the next frame by the table of R158. -/
def arbitrate (p : PortState) : PortState :=
  match p.sending with
  | some _ => p
  | none =>
    match p.fwd, p.own with
    | [], [] => p
    | f :: fs, [] => { p with sending := some f, fwd := fs, streak := 0 }
    | f :: fs, o :: os =>
      if p.streak < 4 then { p with sending := some f, fwd := fs, streak := p.streak + 1 }
      else { p with sending := some o, own := os, streak := 0 }
    | [], o :: os => { p with sending := some o, own := os, streak := 0 }

/-- A frame joins a forwarding queue, or is dropped as OVERRUN when it holds 16 (R157). -/
def joinForward (f : Frame) (p : PortState) : PortState :=
  if p.fwd.length < Config.forwardDepth then arbitrate { p with fwd := p.fwd ++ [f] }
  else { p with overrun := count16 p.overrun }

/-- A frame joins an own-frame queue, or is dropped as OWN_DROP when it holds 8 (R157). -/
def joinOwn (f : Frame) (p : PortState) : PortState :=
  if p.own.length < Config.ownDepth then arbitrate { p with own := p.own ++ [f] }
  else { p with ownDrop := count16 p.ownDrop }

/-- The end of a transmission (R158): the transmitter becomes IDLE and the arbiter chooses again. On an IDLE
transmitter no transmission ends and nothing changes (DESIGN CHOICE, entry 5, safe). -/
def endTransmission (p : PortState) : PortState :=
  match p.sending with
  | none => p
  | some _ => arbitrate { p with sending := none }

/-- A header with its hop count one higher, held at 255 (R154). -/
def raiseHop (h : Header) : Header :=
  { h with hop := if h.hop = 255#8 then 255#8 else h.hop + 1#8 }

/-- A frame received on a port is forwarded out of the other one (R155, R156), its hop count raised. -/
def forward (arrival : Port) (h : Header) (body : Body) (s : State) : State :=
  onPort (otherPort arrival) (joinForward { h := raiseHop h, body := body }) s

/-- A good frame on a port is counted (R154). -/
def countReceived (p : Port) (s : State) : State :=
  onPort p (fun x => { x with received := count16 x.received }) s

/-- The source address of every frame this node makes (R159). -/
def nodeSource (s : State) : Byte := s.line.address.getD 0#8

/-- The port of a reply: the upstream port, or the request's port of arrival while it is unknown (R162). -/
def replyPort (s : State) (arrival : Port) : Port := s.line.upstream.getD arrival

/-- A reply as R162 forms it. -/
def replyFrame (s : State) (source : Byte) (tag : Word16) (code : Byte) (result : ResultCode)
    (payload : ReplyPayload) : Frame where
  h := { dest := source, source := nodeSource s, level := 0#8, tag := tag, hop := 0#8 }
  body := .reply code result payload

/-- A reply is placed in an own-frame queue (R162). -/
def sendReply (arrival : Port) (source : Byte) (tag : Word16) (code : Byte) (result : ResultCode)
    (payload : ReplyPayload) (s : State) : State :=
  onPort (replyPort s arrival) (joinOwn (replyFrame s source tag code result payload)) s

/-- A report as R163 forms it. -/
def reportFrame (s : State) (r : Report) : Frame where
  h := { dest := 0#8, source := nodeSource s, level := 0#8, tag := s.line.reportTag, hop := 0#8 }
  body := .report r

/-- The report tag goes on by one, modulo 65,536 (R163). -/
def nextReportTag (s : State) : State :=
  { s with line := { s.line with reportTag := s.line.reportTag + 1#16 } }

/-- A report joins the own-frame queue of the upstream port, or of both ports with one tag while the
upstream port is unknown, and uses its tag whether queued or dropped (R163). -/
def sendReport (r : Report) (s : State) : State :=
  match s.line.upstream with
  | some p => nextReportTag (onPort p (joinOwn (reportFrame s r)) s)
  | none => nextReportTag (onPort .b (joinOwn (reportFrame s r)) (onPort .a (joinOwn (reportFrame s r)) s))

/-! ### Requests -/

/-- The floor level of a port (R160). -/
def floorOf (l : LineInterface) : Port → Nat
  | .a => l.floorA
  | .b => l.floorB

/-- The effective level of a request: the larger of its level, above 3 taken as 3, and the floor of its
port of arrival (R160). -/
def effectiveLevel (s : State) (arrival : Port) (h : Header) : Nat :=
  max (min h.level.toNat 3) (floorOf s.line arrival)

/-- A request as the block that owns its effect is handed it (R161 stage 4). -/
structure Request where
  port : Port
  h : Header
  args : List Byte
  level : Nat
  deriving DecidableEq, Repr

/-- What a block answers: a result code and a payload, or none when the reply is deferred (R161, R128). -/
abbrev Answer := Option (ResultCode × ReplyPayload)

/-- The answer of a result code and a payload. -/
def answer (result : ResultCode) (payload : ReplyPayload := .empty) : Answer := some (result, payload)

/-- A row of the catalogue of R161: the code, the required level, and the taking by the owner. -/
structure RequestRow where
  code : Byte
  required : Nat
  take : Request → State → State × Answer

/-- Stages 1 to 4 of R161 for a request of the catalogue: it is counted, refused LEVEL or handed to its
owner, and its reply placed after the frames of the owner's action (R162). -/
def takeRequest (row : RequestRow) (port : Port) (h : Header) (args : List Byte) (s : State) : State :=
  let s1 := { s with line := { s.line with requestsTaken := count16 s.line.requestsTaken } }
  let level := effectiveLevel s1 port h
  if row.required < level then
    sendReply port h.source h.tag row.code .level .empty
      { s1 with line := { s1.line with levelRefusals := count16 s1.line.levelRefusals } }
  else
    match row.take { port := port, h := h, args := args, level := level } s1 with
    | (s2, some (result, payload)) => sendReply port h.source h.tag row.code result payload s2
    | (s2, none) => s2

/-- Stage 1 of R161: a request whose code is not in the catalogue is answered UNKNOWN. The code in the
reply to a payload without any code is a free value (entry 4). -/
def takeUnknown (port : Port) (h : Header) (payload : List Byte) (s : State) : State :=
  let s1 := { s with line := { s.line with requestsTaken := count16 s.line.requestsTaken } }
  match payload with
  | code :: _ => sendReply port h.source h.tag code .unknown .empty s1
  | [] =>
    sendReply port h.source h.tag (Config.missingCode s1.freeCount) .unknown .empty
      { s1 with freeCount := s1.freeCount + 1 }

/-- A frame arriving on this port stands under the TRAIL_REQUESTS mask: the upstream port is known and is the
other one (R156, R167). -/
def trailMasked (s : State) (arrival : Port) : Bool :=
  s.line.masked.trailRequests && s.line.upstream == some (otherPort arrival)

/-- A destination names this node (R155): its own address, or broadcast. -/
def takesRequest (s : State) (dest : Byte) : Bool := s.line.address == some dest || dest == 0#8

/-- A good REQUEST frame (R155, R156, R167): dropped under the mask, otherwise taken when it names this node
and forwarded unless it names this node alone. The forwarded copy is made after the taking, its reply placed
(R154, R162; DEDUCED, entry 10). -/
def receiveRequest (taking : State → State) (port : Port) (h : Header) (payload : List Byte) (s : State) : State :=
  let s1 := countReceived port s
  if trailMasked s1 port then
    { s1 with line := { s1.line with trailDrop := count16 s1.line.trailDrop } }
  else
    let s2 := if takesRequest s1 h.dest then taking s1 else s1
    if s1.line.address == some h.dest then s2 else forward port h (.request payload) s2

/-- A request frame whose code is that of a catalogue row. -/
def receiveRow (row : RequestRow) (port : Port) (h : Header) (args : List Byte) (s : State) : State :=
  receiveRequest (takeRequest row port h args) port h (row.code :: args) s

end Sys2Proof.Machine
end

