-- ==== Sys2Proof/Machine/Flags.lean ====
section
/-! DEFINITION. The flags the spec gives: those of a position query (R9, R12), the capability word's features
(R164, R166), the hold of device reset (R176), and those of a step (R99, R107, R111, R112, R116, R73). -/

namespace Sys2Proof.Machine

/-- The position is stale at a query with elapsed time e: no odometry seen, or e at least odo_timeout (R12). -/
def staleFlag (s : State) (e : Nat) : Bool := !s.pos.seen || decide (s.params.odoTimeout ≤ e)

/-- RANGE: the sum of the car chainage lies outside the chainage range (R9). -/
def rangeFlag (sum : Int) : Bool := decide (sum < 0) || decide ((Config.maxChainage : Int) < sum)

/-- u exceeds u_max (R12). -/
def uExceedsFlag (s : State) : Bool := decide (s.params.uMax < s.pos.u)

/-- GATED: the speed of the step is below v_min (R111). -/
def gatedFlag (p : Params) (v : Nat) : Bool := decide (v < p.vMin)

/-- LIMIT: the clamp to ±L_eff changed the gated demand (R112). -/
def limitFlag (lEff : Nat) (gatedDemand : Int) : Bool := clampTo lEff gatedDemand != gatedDemand

/-- RESTRICTION_UNKNOWN: the restriction outcome of the step is UNKNOWN (R73). -/
def restrictionUnknownFlag : RestrictionOutcome → Bool
  | .known => false
  | .unknown _ => true

/-- RATE: the target lies more than the rate step away from the previous command (R116). -/
def rateFlag (prev target : Int) (rs : Nat) : Bool := decide (rs < (target - prev).natAbs)

/-- The outcome of a command other than DEVICE_RESET. While device reset holds the part it receives no frames and
sends none, and no timer runs, so the command changes nothing (R176). -/
def unlessHeld (action : State → State) (s : State) : Result := .next (if s.held then s else action s)

/-- The features a FEATURE MASK byte names (11.2). -/
def featuresOf (set : Byte) : Features where
  predictive := set.getLsbD 0
  audit := set.getLsbD 1
  load := set.getLsbD 2
  trailRequests := set.getLsbD 3

/-- A set bit among bits 4 .. 7 names no feature (11.2). -/
def namesNoFeature (set : Byte) : Bool := set.extractLsb' 4 4 != 0#4

/-- The masked set with features joined (R166). -/
def joinFeatures (x y : Features) : Features where
  predictive := x.predictive || y.predictive
  audit := x.audit || y.audit
  load := x.load || y.load
  trailRequests := x.trailRequests || y.trailRequests

end Sys2Proof.Machine
end

