-- ==== Sys2Proof/Machine/Audit.lean ====
section
/-! DEFINITION. The step audit: arming, counting and tagging, completion, masking and restart (10). -/

namespace Sys2Proof.Machine

/-- A start count of 0 .. 7 drawn afresh: a free value, and the count of those taken (R171, R172; entry 3). -/
def drawCount (s : State) : Nat := (Config.auditDraw s.freeCount).toNat

/-- A pending tag is completed (R173): the completion is set, the tag becomes none, valid is set, and the
AUDIT report with the whole record is sent. With no tag pending nothing happens. -/
def completeAudit (c : Completion) (s : State) : State :=
  match s.audit.pending, s.audit.record with
  | none, _ => s
  | some _, none => { s with audit := { s.audit with pending := none } }
  | some _, some r =>
    sendReport (.audit { r with completion := c })
      { s with audit := { s.audit with record := some { r with completion := c }, pending := none, valid := true } }

/-- The drive port hands over an answer (R173): it completes the pending tag of the same sequence. -/
def auditAnswer (seq : Byte) (stroke angle : Int) (status : AckStatus) (s : State) : State :=
  match s.audit.pending with
  | some t => if t.seq = seq then completeAudit (.complete stroke angle status) s else s
  | none => s

/-- The record of a tagged step, from the step summary, the hand-over and the last local sense (R172). -/
def auditRecord (sum : StepSummary) (d : Drive) (s : State) : AuditRecord where
  stepNumber := s.audit.stepNumber
  mode := sum.mode
  car := sum.car
  v := sum.v
  active := sum.active
  predictive := sum.predictive
  reactive := sum.reactive
  thetaP := sum.thetaP
  thetaR := sum.thetaR
  thetaB := sum.thetaB
  lEff := sum.lEff
  rate := sum.rate
  limited := sum.limited
  restrictionUnknown := sum.restrictionUnknown
  command := sum.command
  seq := d.seq
  isMove := match d.kind with | .move _ _ => true | .query => false
  stroke := match d.kind with | .move _ x => some x | .query => none
  senseAccel := s.queue.senseAccel
  senseValid := s.queue.senseValid
  completion := .pending

/-- The audit counts, and tags the step when the counter equals P (R172 step 2). -/
def auditCount (sum : StepSummary) (d : Drive) (s : State) : State :=
  if s.audit.armed && !s.audit.valid then
    if s.audit.period = some (s.audit.counter + 1) then
      { s with
        audit := { s.audit with
          counter := drawCount s
          record := some (auditRecord sum d s)
          pending := some { seq := d.seq, isMove := match d.kind with | .move _ _ => true | .query => false } }
        freeCount := s.freeCount + 1 }
    else { s with audit := { s.audit with counter := s.audit.counter + 1 } }
  else s

/-- The drive port hands over the step's DRIVE (R172): a tag still pending is completed ABORTED, NO_ACK, then
the audit counts. -/
def auditHandover (sum : StepSummary) (d : Drive) (s : State) : State :=
  auditCount sum d (completeAudit .noAck s)

/-- AUDIT ARM (R171). Too few arguments are BAD_ARG (R175), after the mask (R161 stage 3;
DEDUCED, entry 14). -/
def takeAuditArm (r : Request) (s : State) : State × Answer :=
  if s.line.masked.audit then (s, answer .masked)
  else if r.args.length < 2 then (s, answer .badArg)
  else if arg16 r.args 0 < 16 then (s, answer .badArg)
  else if s.audit.pending.isSome then (s, answer .busy)
  else
    ({ s with
        audit := { s.audit with
          period := some (arg16 r.args 0), valid := false, record := none, counter := drawCount s, armed := true }
        freeCount := s.freeCount + 1 },
      answer .done (.armed (arg16 r.args 0) s.audit.stepNumber))

/-- Masking of AUDIT (R174): disarmed, a pending tag dropped with no report; record and valid kept. -/
def maskAudit (s : State) : State :=
  { s with audit := { s.audit with armed := false, pending := none } }

/-- RESTART at the audit (R170, R174): disarmed, a pending tag dropped with no report, valid cleared. -/
def restartAudit (s : State) : State :=
  { s with audit := { s.audit with armed := false, pending := none, valid := false } }

end Sys2Proof.Machine
end

