-- ==== Sys2Proof/Machine/Mode.lean ====
section
/-! DEFINITION. The mode controller (07): reports, faults, acknowledgements, MODE SET, HOLD, RELEASE, RESUME, the
masking of PREDICTIVE, RESTART, and the forming of the command. -/

namespace Sys2Proof.Machine

/-- A MODE report of the change from a previous mode to the mode as it now stands (R123). -/
def modeReport (previous : Mode) (reason : ModeReason) (m : ModeController) : Report :=
  .mode {
    new := m.mode
    previous := previous
    reason := reason
    target := if m.mode = .centring then some m.target else none
    holdReturn := if m.mode = .hold then m.holdReturn else none
    saved := if m.mode = .fault then some m.saved else none
    holdFlag := m.holdFlag
    prevCommand := m.prevCommand }

/-- The mode controller takes a new state, and when its mode has changed a MODE report is sent (R123). -/
def changeMode (reason : ModeReason) (m : ModeController) (s : State) : State :=
  if m.mode = s.mode.mode then { s with mode := m }
  else sendReport (modeReport s.mode.mode reason m) { s with mode := m }

/-- The pending HOLD reply is answered DONE, previous flag clear, with a settle outcome, and becomes none
(R129, R162: the port is chosen now, from the port of arrival kept). -/
def answerHold (outcome : SettleOutcome) (s : State) : State :=
  match s.holdReply with
  | none => s
  | some p => sendReply p.port p.source p.tag 17#8 .done (.hold false outcome) { s with holdReply := none }

/-! ### Faults (R131 to R135) -/

/-- A FAULT report as R135 gives it. -/
def faultReport (cause : FaultCause) (further : Bool) (m : ModeController) : Report :=
  .fault {
    cause := cause
    further := further
    firstCause := m.firstCause
    furtherCount := m.further
    saved := m.saved
    holdFlag := m.holdFlag
    prevCommand := m.prevCommand
    ackStatus := m.ackStatus
    odoSpeed := m.odoSpeed }

/-- The saved mode taken from the mode being left (R131). A HOLD without hold return mode, which no run
reaches, keeps the saved mode (DESIGN CHOICE, entry 15). -/
def savedFrom (m : ModeController) : ChosenMode :=
  match m.mode with
  | .off => .off
  | .reactive => .reactive
  | .predictive => .predictive
  | .hold => m.holdReturn.getD m.saved
  | .centring => m.target
  | .fault => m.saved

/-- The mode controller's own items at the entry to FAULT (R131). -/
def faultedMode (cause : FaultCause) (m : ModeController) : ModeController :=
  { m with
    mode := .fault, saved := savedFrom m, firstCause := some cause, further := 0, ackSeen := false,
    odoSinceFault := false, holdReturn := none, faultsTaken := count16 m.faultsTaken, settle := 0 }

/-- Entry to FAULT (R131). The frames join in the order of R131: the FAULTED reply, the AUDIT report, the
FAULT report and the MODE report. -/
def enterFault (cause : FaultCause) (s : State) : State :=
  let m := faultedMode cause s.mode
  let s1 := completeAudit .fault (answerHold .faulted { s with mode := m })
  sendReport (modeReport s.mode.mode .fault m) (sendReport (faultReport cause false m) s1)

/-- The mode controller's own items at a further fault (R132). -/
def furtherMode (cause : FaultCause) (m : ModeController) : ModeController :=
  { m with
    further := count8 m.further, faultsTaken := count16 m.faultsTaken,
    ackSeen := if cause = .driveSilent then false else m.ackSeen,
    odoSinceFault := if cause = .odoLost then false else m.odoSinceFault }

/-- A further fault (R132). -/
def furtherFault (cause : FaultCause) (s : State) : State :=
  sendReport (faultReport cause true (furtherMode cause s.mode)) { s with mode := furtherMode cause s.mode }

/-- A fault cause is asked for (R131, R132). -/
def takeFault (cause : FaultCause) (s : State) : State :=
  if s.mode.mode = .fault then furtherFault cause s else enterFault cause s

/-- The ODOMETRY notice (R3, R133). -/
def odometryNotice (v : Nat) (s : State) : State :=
  { s with mode := { s.mode with odoSinceFault := true, odoSpeed := v } }

/-! ### Acknowledgements (R126, R127, R129) -/

/-- Whether the DRIVE answered was a QUERY. -/
def isQuery : DriveKind → Bool
  | .move _ _ => false
  | .query => true

/-- Steps 1 and 2 of R126. -/
def noteAck (kind : DriveKind) (angle : Int) (status : AckStatus) (m : ModeController) : ModeController :=
  { m with
    ackSeen := true, ackStatus := some status,
    prevCommand := if isQuery kind && m.prevCommand.isNone then some angle else m.prevCommand }

/-- The end of centring (R127). -/
def judgeCentring (angle : Int) (s : State) : State :=
  if s.mode.mode = .centring ∧ s.mode.prevCommand = some 0 ∧ angle.natAbs ≤ s.params.holdTol then
    changeMode .centred { s.mode with mode := chosenToMode s.mode.target } s
  else s

/-- The acknowledged angle lies within hold_tol of the previous command (R129). -/
def settledOn (m : ModeController) (tol : Nat) (angle : Int) : Bool :=
  match m.prevCommand with
  | some c => (angle - c).natAbs ≤ tol
  | none => false

/-- The settle of a pending HOLD reply (R129). -/
def judgeSettle (angle : Int) (s : State) : State :=
  if s.holdReply.isNone then s
  else if settledOn s.mode s.params.holdTol angle then
    if s.mode.settle + 1 < 2 then { s with mode := { s.mode with settle := s.mode.settle + 1 } }
    else answerHold .settled { s with mode := { s.mode with settle := 0 } }
  else { s with mode := { s.mode with settle := 0 } }

/-- The mode controller takes an acknowledgement (R126). -/
def takeAck (kind : DriveKind) (angle : Int) (status : AckStatus) (s : State) : State :=
  let s1 := { s with mode := noteAck kind angle status s.mode }
  if status = .fault then takeFault .driveFault s1
  else if isQuery kind then s1
  else judgeSettle angle (judgeCentring angle s1)

/-- A missed acknowledgement sets the settle count to 0 (R126). -/
def noteMiss (s : State) : State := { s with mode := { s.mode with settle := 0 } }

/-! ### Requests -/

/-- The payload of every reply the mode controller gives to MODE SET (R124). -/
def modeHeld (m : ModeController) : ReplyPayload :=
  .modeHeld m.mode (if m.mode = .centring then some m.target else none)

/-- A MODE SET that passes R124 (R125). -/
def applyModeSet (target : ChosenMode) (m : ModeController) : ModeController :=
  match m.mode, target with
  | .off, t => { m with mode := chosenToMode t }
  | .centring, t => { m with target := t }
  | .reactive, .off => { m with mode := .centring, target := .off }
  | .predictive, .off => { m with mode := .centring, target := .off }
  | .reactive, t => { m with mode := chosenToMode t }
  | .predictive, t => { m with mode := chosenToMode t }
  | .hold, _ => m
  | .fault, _ => m

/-- MODE SET: the checks of R124 in order, then R125. -/
def takeModeSet (r : Request) (s : State) : State × Answer :=
  if r.args.length < 1 then (s, answer .badArg (modeHeld s.mode))
  else
    match targetOfCode (arg8 r.args 0) with
    | none => (s, answer .badArg (modeHeld s.mode))
    | some t =>
      if s.mode.mode = .hold ∨ s.mode.mode = .fault then (s, answer .modeRefused (modeHeld s.mode))
      else if t = .predictive ∧ s.line.masked.predictive then (s, answer .masked (modeHeld s.mode))
      else if t ≠ .off ∧ s.line.upstream = none then (s, answer .modeRefused (modeHeld s.mode))
      else (changeMode .modeSet (applyModeSet t s.mode) s, answer .done (modeHeld s.mode))

/-- The hold return mode of a HOLD taken in a mode (R128): the mode, or the centring target. -/
def holdReturnOf (m : ModeController) : ChosenMode :=
  match m.mode with
  | .reactive => .reactive
  | .predictive => .predictive
  | .centring => m.target
  | _ => .off

/-- HOLD (R128). A mode HOLD with the flag clear, which no run reaches, is taken as OFF is (DESIGN CHOICE,
entry 15). -/
def takeHold (r : Request) (s : State) : State × Answer :=
  if s.mode.holdFlag then (s, answer .done (.hold true .immediate))
  else if s.mode.mode = .fault then
    ({ s with mode := { s.mode with holdFlag := true } }, answer .done (.hold false .immediate))
  else
    (changeMode .hold
        { s.mode with holdFlag := true, holdReturn := some (holdReturnOf s.mode), mode := .hold, settle := 0 }
        { s with holdReply := some { tag := r.h.tag, source := r.h.source, port := r.port } },
      none)

/-- RELEASE (R130): from HOLD to the hold return mode; in FAULT the flag alone is cleared. The reply to a
pending HOLD stands before the reply to the RELEASE, and the MODE report before both (DESIGN CHOICE, entry 11). -/
def takeRelease (_ : Request) (s : State) : State × Answer :=
  if s.mode.holdFlag then
    let s1 :=
      if s.mode.mode = .hold then
        changeMode .release
          { s.mode with
            holdFlag := false, mode := chosenToMode (s.mode.holdReturn.getD .off), holdReturn := none, settle := 0 } s
      else { s with mode := { s.mode with holdFlag := false, settle := 0 } }
    (answerHold .released s1, answer .done (.holdFlag true))
  else (s, answer .done (.holdFlag false))

/-- The first cause has cleared (R133). -/
def causeCleared (m : ModeController) : Bool :=
  match m.firstCause with
  | some .driveSilent => m.ackSeen
  | some .driveFault => m.ackStatus != some .fault
  | some .odoLost => m.odoSinceFault
  | some .lineTurn => m.odoSpeed == 0
  | none => true

/-- RESUME (R134). -/
def takeResume (_ : Request) (s : State) : State × Answer :=
  if s.mode.mode ≠ .fault then (s, answer .modeRefused)
  else if !causeCleared s.mode then (s, answer .notCleared (.cause s.mode.firstCause))
  else if s.mode.holdFlag then
    (changeMode .resume { s.mode with mode := .hold, holdReturn := some s.mode.saved } s, answer .done)
  else (changeMode .resume { s.mode with mode := chosenToMode s.mode.saved } s, answer .done)

/-- A chosen mode with PREDICTIVE rewritten to REACTIVE (R136). -/
def withoutPredictive : ChosenMode → ChosenMode
  | .predictive => .reactive
  | t => t

/-- The mode and held modes after the masking of PREDICTIVE (R136). -/
def maskedMode (m : ModeController) : ModeController :=
  { m with
    mode := if m.mode = .predictive then .reactive else m.mode
    target := if m.mode = .centring then withoutPredictive m.target else m.target
    holdReturn := if m.mode = .hold then m.holdReturn.map withoutPredictive else m.holdReturn
    saved := withoutPredictive m.saved }

/-- Masking of PREDICTIVE at the mode controller (R136). -/
def maskPredictive (s : State) : State := changeMode .mask (maskedMode s.mode) s

/-- The mode controller's items after RESTART (R137). -/
def restartedMode (m : ModeController) : ModeController :=
  { m with
    holdFlag := false, holdReturn := none, settle := 0, firstCause := none, further := 0, saved := .off,
    ackSeen := false, odoSinceFault := false, mode := .centring, target := .off }

/-- RESTART at the mode controller (R137, R168): the FAULTED reply to a pending HOLD, then the MODE report. -/
def restartMode (s : State) : State :=
  changeMode .restart (restartedMode s.mode) (answerHold .faulted s)

/-! ### The command (R115 to R117, R121) -/

/-- The rate step rs (R115). -/
def rateStep (p : Params) : Nat := max 1 (p.rateMax * p.stepMs / 1000)

/-- The previous command moved toward the target by at most rs (R116). -/
def moveToward (prev target : Int) (rs : Nat) : Int :=
  if rateFlag prev target rs then (if prev < target then prev + rs else prev - rs) else target

/-- The step's command and RATE (R116, R117, R121): none while the previous command is unknown; the previous
command in HOLD; otherwise the previous command moved toward the target. -/
def formCommand (m : ModeController) (target : Int) (rs : Nat) : Option Int × Bool :=
  match m.prevCommand with
  | none => (none, false)
  | some c => if m.mode = .hold then (some c, false) else (some (moveToward c target rs), rateFlag c target rs)

end Sys2Proof.Machine
end

