-- ==== Sys2Proof/Machine/Preview.lean ====
section
/-! DEFINITION. The position query (R9 to R12) and the preview queue (05): arrival, shift, flush, the reactive
query, and the meanings of SENSE and SAMPLE. -/

namespace Sys2Proof.Machine

/-! ### The position query -/

/-- The answer to a position query (R11). -/
structure PositionAnswer where
  car : Nat
  p : Nat
  q : Nat
  b : Nat
  d : Int
  o : Int
  v : Nat
  previewDm : Nat
  stale : Bool
  range : Bool
  uExceeds : Bool
  usable : Bool
  deriving DecidableEq, Repr

/-- The elapsed time e of a query at the present instant: whole milliseconds since the arrival instant,
capped at odo_timeout, and odo_timeout before the first arrival (R9). -/
def elapsedMs (s : State) : Nat :=
  match s.clock.arrival with
  | none => s.params.odoTimeout
  | some t => min s.params.odoTimeout ((s.clock.now - t) / Config.ticksPerMs)

/-- The orientation factor o (00, "Frames of reference"; R1). -/
def orientation (l : LineInterface) : Int :=
  match l.upstream with
  | some .b => -1
  | _ => 1

/-- The offset in use (R1, R5, R7). -/
def offsetInUse (s : State) : Nat :=
  match s.line.upstream with
  | some .b => s.params.offsetB
  | _ => s.params.offsetA

/-- The direction factor of a query: that of the held direction, +1 while the upstream port is unknown
(R9, R10). -/
def queryDirection (s : State) : Int := if s.line.upstream = none then 1 else dirFactor s.pos.dir

/-- The sum of R9 before it is saturated. -/
def carSum (s : State) : Int :=
  s.pos.t0 + s.pos.fixOffset - queryDirection s * offsetInUse s
    + queryDirection s * roundDiv ((s.pos.v * elapsedMs s : Nat) : Int) 10000

/-- The preview distance (R10). -/
def previewDistance (s : State) : Nat := (roundDiv ((s.pos.v * s.params.lagMs : Nat) : Int) 10000).toNat

/-- The answer to a position query at the present instant (R9 to R12). Each point is formed from the saturated
point before it (DEDUCED, entry 12). -/
def positionQuery (s : State) : PositionAnswer :=
  let d := queryDirection s
  let car := saturate (carSum s)
  let p := saturate (car + d * previewDistance s)
  let stale := staleFlag s (elapsedMs s)
  let range := rangeFlag (carSum s)
  { car := car
    p := p
    q := saturate (p + d * s.params.trimDm)
    b := saturate (car + d * s.params.sensorLeadDm)
    d := d
    o := orientation s.line
    v := s.pos.v
    previewDm := previewDistance s
    stale := stale
    range := range
    uExceeds := uExceedsFlag s
    usable := !stale && !uExceedsFlag s && !range }

/-! ### Arrival, shift and flush -/

/-- The newest entry of a queue. -/
def newest (q : PreviewQueue) : Option PreviewEntry := q.entries.getLast?

/-- An append of a sample, judged for sequence against the entry that was newest (R83, R84). -/
def appendEntry (e : PreviewEntry) (q : PreviewQueue) : PreviewQueue :=
  { q with
    entries := q.entries ++ [e]
    appended := count16 q.appended
    seqGaps :=
      match newest q with
      | some n => if e.seq = n.seq + 1#8 then q.seqGaps else count16 q.seqGaps
      | none => q.seqGaps }

/-- The arrival rule (R83) under the direction factor d. While 512 entries are held, a sample that replaces the newest
entry or is stale is taken as the table of R83 has it, and only one that would be appended is dropped as an overrun
(DESIGN CHOICE, entry 25). -/
def arrive (d : Int) (e : PreviewEntry) (q : PreviewQueue) : PreviewQueue :=
  match newest q with
  | none => appendEntry e q
  | some n =>
    if 0 < d * ((e.chainage : Int) - n.chainage) then
      if q.entries.length < Config.queueDepth then appendEntry e q else { q with overruns := count16 q.overruns }
    else if e.chainage = n.chainage then
      { q with
        entries := q.entries.dropLast ++ [{ e with chainage := n.chainage }]
        replacements := count16 q.replacements }
    else { q with stale := count16 q.stale }

/-- A flush (R86). -/
def flushQueue (q : PreviewQueue) : PreviewQueue :=
  { q with entries := [], lastOriginated := none, flushes := count16 q.flushes }

/-- A chainage moved by an amount; none when it would lie out of range (R85). -/
def shiftChainage (amount : Int) (c : Nat) : Option Nat :=
  if 0 ≤ (c : Int) + amount ∧ (c : Int) + amount ≤ Config.maxChainage then some ((c : Int) + amount).toNat else none

/-- An entry moved by an amount; none when it would lie out of range (R85). -/
def shiftEntry (amount : Int) (e : PreviewEntry) : Option PreviewEntry :=
  (shiftChainage amount e.chainage).map fun c => { e with chainage := c }

/-- A shift (R85). -/
def shiftQueue (amount : Int) (q : PreviewQueue) : PreviewQueue :=
  let kept := q.entries.filterMap (shiftEntry amount)
  { q with
    entries := kept
    lastOriginated := q.lastOriginated.bind (shiftChainage amount)
    shiftLosses := min 65535 (q.shiftLosses + (q.entries.length - kept.length)) }

/-! ### The reactive query (R87 to R92) -/

/-- The answer of a reactive query (R87), with the acceleration and the chainages of the entries used. -/
inductive ReactiveAnswer where
  | interpolated (value : Int) (c1 c2 : Nat)
  | held (value : Int) (c : Nat)
  | gap
  | invalid
  deriving DecidableEq, Repr

/-- An entry is at or behind q (R87). -/
def atOrBehind (d : Int) (q : Nat) (e : PreviewEntry) : Bool := 0 ≤ d * ((q : Int) - e.chainage)

/-- The entries at or behind q, oldest first. -/
def behindEntries (d : Int) (q : Nat) (l : List PreviewEntry) : List PreviewEntry := l.filter (atOrBehind d q)

/-- The entries beyond q, oldest first. -/
def beyondEntries (d : Int) (q : Nat) (l : List PreviewEntry) : List PreviewEntry :=
  l.filter fun e => !atOrBehind d q e

/-- Retirement (R88): of the entries at or behind q, all but the newest are removed. -/
def retire (d : Int) (q : Nat) (l : List PreviewEntry) : List PreviewEntry :=
  (behindEntries d q l).getLast?.toList ++ beyondEntries d q l

/-- The interpolation of R89. -/
def interpolate (e1 e2 : PreviewEntry) (q : Nat) : Int :=
  e1.accel + roundDiv ((e2.accel - e1.accel) * ((q : Int) - e1.chainage).natAbs)
    ((e2.chainage : Int) - e1.chainage).natAbs

/-- The lookup of R89 to R92. -/
def lookupReactive (d : Int) (q : Nat) (stride : Nat) (l : List PreviewEntry) : ReactiveAnswer :=
  match (behindEntries d q l).getLast?, (beyondEntries d q l).head? with
  | some e1, some e2 =>
    if e1.valid && e2.valid then .interpolated (interpolate e1 e2 q) e1.chainage e2.chainage else .invalid
  | some e, none =>
    if d * ((q : Int) - e.chainage) ≤ 2 * (stride : Int) then (if e.valid then .held e.accel e.chainage else .invalid)
    else .gap
  | none, _ => .gap

/-- The counts of R91 and R92. -/
def countAnswer (a : ReactiveAnswer) (q : PreviewQueue) : PreviewQueue :=
  match a with
  | .gap => { q with gapAnswers := count16 q.gapAnswers }
  | .invalid => { q with invalidAnswers := count16 q.invalidAnswers }
  | _ => q

/-- The reactive query (R87): retirement, then the lookup. -/
def reactiveQuery (d : Int) (q : Nat) (stride : Nat) (x : PreviewQueue) : PreviewQueue × ReactiveAnswer :=
  let kept := retire d q x.entries
  let a := lookupReactive d q stride kept
  (countAnswer a { x with entries := kept }, a)

/-! ### SENSE and SAMPLE -/

/-- The last local sense and the sense-clamps count after a SENSE frame (R79). Bits 1 .. 7 of the flags byte are
ignored (DESIGN CHOICE, entry 21). -/
def storeSense (accel : Word16) (flags : Byte) (q : PreviewQueue) : PreviewQueue :=
  { q with
    senseAccel := clampTo 5000 accel.toInt
    senseValid := flags.getLsbD 0
    senseClamps := if clampTo 5000 accel.toInt = accel.toInt then q.senseClamps else count16 q.senseClamps }

/-- A SENSE frame at the lead originates a sample (R80). -/
def originates (q : PreviewQueue) (b stride : Nat) : Bool :=
  match q.lastOriginated with
  | none => true
  | some c => stride ≤ ((b : Int) - c).natAbs

/-- The sample originated from the last local sense (R80). -/
def originatedEntry (q : PreviewQueue) (b : Nat) (o : Int) : PreviewEntry where
  chainage := b
  accel := o * q.senseAccel
  valid := q.senseValid
  seq := q.nextSeq

/-- The queue's own items after an origination (R80), and the sample put to the lead's queue (R81). -/
def originateInto (d : Int) (e : PreviewEntry) (q : PreviewQueue) : PreviewQueue :=
  arrive d e
    { q with lastOriginated := some e.chainage, nextSeq := q.nextSeq + 1#8, originated := count16 q.originated }

/-- The SAMPLE frame of an originated sample (R81). Bits 1 .. 7 of its flags byte, which 11.2 gives no meaning, are
sent as 0 (DESIGN CHOICE, entry 21). -/
def sampleFrame (s : State) (e : PreviewEntry) : Frame where
  h := { dest := 0#8, source := nodeSource s, level := 0#8, tag := 0#16, hop := 0#8 }
  body := .sample (BitVec.ofNat 24 e.chainage) (BitVec.ofInt 16 e.accel) (if e.valid then 1#8 else 0#8) e.seq []

/-- An originated sample goes to the lead's own queue and to the downstream port (R81). A lead without an
upstream port, which R10 excludes, has no downstream port to send to (DESIGN CHOICE, entry 15). -/
def originate (pa : PositionAnswer) (s : State) : State :=
  let e := originatedEntry s.queue pa.b pa.o
  let s1 := { s with queue := originateInto (dirFactor s.pos.dir) e s.queue }
  match s.line.upstream with
  | some up => onPort (otherPort up) (joinOwn (sampleFrame s e)) s1
  | none => s1

/-- SENSE (R79, R80). -/
def senseFrame (accel : Word16) (flags : Byte) (s : State) : State :=
  let s1 := { s with queue := storeSense accel flags s.queue }
  if s1.pos.lead then
    let pa := positionQuery s1
    if originates s1.queue pa.b s1.params.strideDm then originate pa s1 else s1
  else s1

/-- SENSE: a SENSE frame on the sensor port (R79). -/
def execSense (accel : Word16) (flags : Byte) (s : State) : Result := unlessHeld (senseFrame accel flags) s

/-- The sample carried by a SAMPLE frame: the acceleration clamped to ±5,000 (R82). Bits 1 .. 7 of the flags byte are
ignored (DESIGN CHOICE, entry 21). -/
def carriedEntry (chainage : Word24) (accel : Word16) (flags seq : Byte) : PreviewEntry where
  chainage := chainage.toNat
  accel := clampTo 5000 accel.toInt
  valid := flags.getLsbD 0
  seq := seq

/-- A SAMPLE frame is acted on: the upstream port is known, the frame came on it, and the node is not lead
(R82). -/
def actsOnSample (s : State) (port : Port) : Bool := s.line.upstream == some port && !s.pos.lead

/-- SAMPLE at the preview queue (R82, R83). -/
def takeSample (port : Port) (e : PreviewEntry) (s : State) : State :=
  if actsOnSample s port then { s with queue := arrive (dirFactor s.pos.dir) e s.queue }
  else { s with queue := { s.queue with ignored := count16 s.queue.ignored } }

/-- A good SAMPLE frame is handed to the preview queue and forwarded in every case (R82, R155). -/
def receiveSample (port : Port) (h : Header) (chainage : Word24) (accel : Word16) (flags seq : Byte)
    (rest : List Byte) (s : State) : State :=
  forward port h (.sample chainage accel flags seq rest)
    (takeSample port (carriedEntry chainage accel flags seq) (countReceived port s))

/-- SAMPLE (R82 to R84). -/
def execSample (port : Port) (h : Header) (chainage : Word24) (accel : Word16) (flags seq : Byte)
    (rest : List Byte) (s : State) : Result :=
  unlessHeld (receiveSample port h chainage accel flags seq rest) s

/-- LOCAL_FRAME_DISCARD: a bad frame on a local port, or one that began to arrive before the release of device reset
(R176), is discarded as if it had not arrived (R175). -/
def execLocalFrameDiscard (_port : LocalPort) (_bytes : List Byte) (s : State) : Result := .next s

end Sys2Proof.Machine
end

