-- ==== Sys2Proof/Machine/Position.lean ====
section
/-! DEFINITION. The position unit (01): ODOMETRY, the odometry-loss watchdog and FIX. -/

namespace Sys2Proof.Machine

/-- The direction a direction field gives: bit 0 clear UP, set DOWN (R3). -/
def directionOf (field : Byte) : Direction := if field.getLsbD 0 then .down else .up

/-- The kinds of arrival of an ODOMETRY frame (R3). -/
inductive ArrivalKind where
  | first
  | ordinary
  | turnaround
  deriving DecidableEq, Repr

/-- The kind of an arrival, by the upstream port and the port of arrival (R3). -/
def arrivalKind (upstream : Option Port) (port : Port) : ArrivalKind :=
  match upstream with
  | none => .first
  | some p => if p = port then .ordinary else .turnaround

/-- The distance since fix after an arrival: grown by the magnitude of the change of chainage, holding at
16,777,215; not grown by a first arrival (R4, R5). -/
def grownDistance (kind : ArrivalKind) (x : PositionUnit) (chainage : Nat) : Nat :=
  match kind with
  | .first => x.sinceFix
  | _ => min Config.maxChainage (x.sinceFix + ((chainage : Int) - x.t0).natAbs)

/-- The candidate of the uncertainty (R14). -/
def uCandidate (uFix dist drift : Nat) : Nat := min 65535 (uFix + ceilDiv (dist * drift) 1000)

/-- The position unit's items after an ODOMETRY frame with its speed clamped (R4, R5, R7, R8, R13, R14). -/
def refreshed (kind : ArrivalKind) (chainage v : Nat) (dir : Direction) (lead : Bool) (drift : Nat)
    (x : PositionUnit) : PositionUnit :=
  { x with
    t0 := chainage
    v := v
    dir := dir
    seen := true
    lead := lead
    watchdog := .running
    sinceFix := grownDistance kind x chainage
    u := max x.u (uCandidate x.uFix (grownDistance kind x chainage) drift) }

/-- The arrival asks the preview queue to flush: a direction change (R6) or a turnaround (R7). -/
def asksFlush (kind : ArrivalKind) (old new : Direction) : Bool :=
  match kind with
  | .first => false
  | .ordinary => old != new
  | .turnaround => true

/-- The speed of an ODOMETRY frame after clamping (R3). -/
def clampSpeed (speed : Word16) : Nat := min Config.maxSpeed speed.toNat

/-- The position unit takes an ODOMETRY frame (R3 to R8), with the notice to the mode controller before any
fault request of the same frame (R133). -/
def takeOdometry (port : Port) (hop : Byte) (chainage : Word24) (speed : Word16) (direction : Byte)
    (s : State) : State :=
  let kind := arrivalKind s.line.upstream port
  let v := clampSpeed speed
  let dir := directionOf direction
  let s1 :=
    { s with
      line := { s.line with upstream := some port }
      pos := refreshed kind chainage.toNat v dir (hop == 0#8) s.params.driftPermille s.pos
      clock := { s.clock with arrival := some s.clock.now }
      queue := if asksFlush kind s.pos.dir dir then flushQueue s.queue else s.queue }
  let s2 := odometryNotice v s1
  if kind = .turnaround ∧ 0 < v then takeFault .lineTurn s2 else s2

/-- A good ODOMETRY frame: taken by the position unit, then forwarded by the upstream port as it now stands (R3,
R154). -/
def receiveOdometry (port : Port) (h : Header) (chainage : Word24) (speed : Word16) (direction : Byte)
    (rest : List Byte) (s : State) : State :=
  forward port h (.odometry chainage speed direction rest)
    (takeOdometry port h.hop chainage speed direction (countReceived port s))

/-- ODOMETRY (R3 to R8). -/
def execOdometry (port : Port) (h : Header) (chainage : Word24) (speed : Word16) (direction : Byte)
    (rest : List Byte) (s : State) : Result :=
  unlessHeld (receiveOdometry port h chainage speed direction rest) s

/-- The clock brought to an instant not yet reached (entry 1). -/
def clockTo (t : Nat) (s : State) : State := { s with clock := { s.clock with now := max s.clock.now t } }

/-- An expiry of the watchdog: ODO_LOST is asked for and the watchdog becomes IDLE (R13). -/
def watchdogExpires (s : State) : State :=
  takeFault .odoLost { s with pos := { s.pos with watchdog := .idle } }

/-- The event of the watchdog's expiry (R13): in RUNNING, at its due instant, the watchdog expires. In IDLE no expiry
is pending and nothing changes (DESIGN CHOICE, entry 5, safe). -/
def watchdogExpiry (s : State) : State :=
  match s.pos.watchdog with
  | .idle => s
  | .running => watchdogExpires (clockTo ((watchdogDue s).getD 0) s)

/-- ODO_LOST (R13). -/
def execOdoLost (s : State) : Result := unlessHeld watchdogExpiry s

/-! ### Fixes (R15 to R18) -/

/-- The verdicts of a FIX (11.2). -/
inductive Verdict where
  | unmarked
  | accepted
  | rejected
  deriving DecidableEq, Repr

/-- A verdict code; one that names none is UNMARKED (R15). -/
def verdictOf (code : Byte) : Verdict :=
  if code = 1#8 then .accepted else if code = 2#8 then .rejected else .unmarked

/-- The fix is acted on: on the upstream port, or while that is unknown (R15). -/
def actsOnFix (s : State) (port : Port) : Bool :=
  s.line.upstream == none || s.line.upstream == some port

/-- The correction c of a fix (R15). -/
def correction (beacon passage : Word24) : Int := (beacon.toNat : Int) - passage.toNat

/-- The accuracy of a fix, above 50 taken as 50 (R15). -/
def fixAccuracy (accuracy : Byte) : Nat := min 50 accuracy.toNat

/-- The DISAGREE latch and the run count are cleared together (R110). -/
def clearDisagree (d : DemandUnit) : DemandUnit := { d with latch := false, runCount := 0 }

/-- The position unit's items after a fix is applied (R17). -/
def fixedPosition (c : Int) (accuracy : Nat) (x : PositionUnit) : PositionUnit :=
  { x with
    fixOffset := c, uFix := accuracy, sinceFix := 0, u := accuracy, fixesApplied := count16 x.fixesApplied }

/-- Applying a fix (R17): the offset, the shift of the queue and the clearing of the latch in one action. -/
def applyFix (c : Int) (accuracy : Nat) (s : State) : State :=
  { s with
    pos := fixedPosition c accuracy s.pos
    queue := shiftQueue (c - s.pos.fixOffset) s.queue
    demand := clearDisagree s.demand }

/-- A lead accepts a fix (R16). -/
def acceptsFix (x : PositionUnit) (c : Int) (accuracy : Nat) : Bool :=
  decide ((c - x.fixOffset).natAbs ≤ x.u + accuracy + 10) || decide (2 ≤ x.rejections)

/-- A lead decides a fix (R16): the state after it, and the verdict byte it writes. -/
def leadFix (c : Int) (accuracy : Nat) (s : State) : State × Byte :=
  if acceptsFix s.pos c accuracy then
    let s1 := applyFix c accuracy s
    ({ s1 with pos := { s1.pos with rejections := 0 } }, 1#8)
  else ({ s with pos := { s.pos with rejections := s.pos.rejections + 1 } }, 2#8)

/-- A follower follows the verdict carried (R18). -/
def followFix (c : Int) (accuracy : Nat) (verdict : Verdict) (s : State) : State :=
  match verdict with
  | .accepted => applyFix c accuracy s
  | .rejected => s
  | .unmarked => { s with pos := { s.pos with unmarkedIgnored := count16 s.pos.unmarkedIgnored } }

/-- The position unit takes a FIX frame (R15): the state after it, and the verdict byte to forward. -/
def takeFix (port : Port) (beacon passage : Word24) (accuracy verdict : Byte) (s : State) : State × Byte :=
  if actsOnFix s port then
    if s.pos.lead then leadFix (correction beacon passage) (fixAccuracy accuracy) s
    else (followFix (correction beacon passage) (fixAccuracy accuracy) (verdictOf verdict) s, verdict)
  else ({ s with pos := { s.pos with reverseIgnored := count16 s.pos.reverseIgnored } }, verdict)

/-- A good FIX frame: handed to the position unit, then forwarded with the verdict it carries after this node has
acted (R15, R154). -/
def receiveFix (port : Port) (h : Header) (beacon passage : Word24) (accuracy verdict : Byte) (rest : List Byte)
    (s : State) : State :=
  let r := takeFix port beacon passage accuracy verdict (countReceived port s)
  forward port h (.fix beacon passage accuracy r.2 rest) r.1

/-- FIX (R15 to R18). -/
def execFix (port : Port) (h : Header) (beacon passage : Word24) (accuracy verdict : Byte) (rest : List Byte)
    (s : State) : Result :=
  unlessHeld (receiveFix port h beacon passage accuracy verdict rest) s

end Sys2Proof.Machine
end

