-- ==== Sys2Proof/Machine/Store.lean ====
section
/-! DEFINITION. The curve store (03): loads, verification, closing, erasing and reading, and VERIFY_COMPLETION. -/

namespace Sys2Proof.Machine

/-- The end of a record, exclusive, formed without saturation (R39). -/
def recordEnd (r : CurveRecord) : Nat := r.start + r.entry + r.body + r.exit

/-- A record position as a slot stores it (R40). -/
def storedRecord (c : CarriedRecord) : CurveRecord where
  start := c.start.toNat
  entry := c.entry.toNat % 4096
  body := c.body.toNat
  exit := c.exit.toNat % 4096
  kappa := c.kappa.toInt
  cant := c.cant.toInt
  noTilt := c.noTilt
  comp := if c.hasComp then some (min 100 c.comp.toNat) else none
  limit := if c.hasLimit then some (min 800 c.limit.toNat) else none

/-- R40 stores the compensation percentage of this position lower than carried. -/
def compLower (c : CarriedRecord) : Bool := c.hasComp && decide (100 < c.comp.toNat)

/-- R40 stores the limit of this position lower than carried. -/
def limitLower (c : CarriedRecord) : Bool := c.hasLimit && decide (800 < c.limit.toNat)

/-- R40 stores a value of this position lower than carried. -/
def storedLower (c : CarriedRecord) : Bool := compLower c || limitLower c

/-- The values applied to a position, where they were stored lower than carried (R40, R161). -/
def appliedValues (k : Nat) (c : CarriedRecord) : AppliedValues where
  position := k
  comp := if compLower c then (storedRecord c).comp else none
  limit := if limitLower c then (storedRecord c).limit else none

/-- The values applied to the positions from k on, one entry for each present position that has any (R161). -/
def appliedFrom : Nat → List (Option CarriedRecord) → List AppliedValues
  | _, [] => []
  | k, none :: ps => appliedFrom (k + 1) ps
  | k, some c :: ps => if storedLower c then appliedValues k c :: appliedFrom (k + 1) ps else appliedFrom (k + 1) ps

/-- The slot of position k of a length-8 burst (R43). -/
def slotOfLong (group start k : Nat) : Nat := 8 * group + (start + k) % 8

/-- The slot of position k of a length-4 burst (R43). -/
def slotOfShort (group start k : Nat) : Nat := 8 * group + (start - start % 4) + (start + k) % 4

/-- The positions of a burst written from position k on, each present one to its slot (R45, R47). -/
def writePositions (slotOf : Nat → Nat) : Nat → List (Option CarriedRecord) → List (Nat × CurveRecord) →
    List (Nat × CurveRecord)
  | _, [], m => m
  | k, none :: ps, m => writePositions slotOf (k + 1) ps m
  | k, some c :: ps, m => writePositions slotOf (k + 1) ps (slotSet m (slotOf k) (storedRecord c))

/-- How many positions are present. -/
def presentCount (ps : List (Option CarriedRecord)) : Nat := (ps.filter Option.isSome).length

/-- Some present position is stored lower than carried (R40). -/
def anyLower (ps : List (Option CarriedRecord)) : Bool :=
  ps.any fun p => match p with | some c => storedLower c | none => false

/-- The store with a burst's positions written into a bank. -/
def writeBurst (b : Fin 4) (slotOf : Nat → Nat) (ps : List (Option CarriedRecord)) (c : CurveStore) : CurveStore :=
  setBank c b { bankOf c b with slots := writePositions slotOf 0 ps (bankOf c b).slots }

/-! ### Verification (R50 to R54) -/

/-- The first failing check of one record (R52); `prevEnd` is the end of the record before it. -/
def recordFault (r : Option CurveRecord) (prevEnd : Option Nat) : Option VerifyReason :=
  match r with
  | none => some .unwritten
  | some r =>
    if 20000 < r.kappa.natAbs then some .curvature
    else if 180 < r.cant.natAbs then some .cant
    else if r.cant ≠ 0 ∧ r.cant.sign ≠ r.kappa.sign then some .cantSign
    else
      match prevEnd with
      | some e => if r.start < e then some .overlap else none
      | none => none

/-- The first failing record among n records from index i on, with its reason (R52). -/
def firstFault (m : List (Nat × CurveRecord)) : Nat → Nat → Option Nat → Option (Nat × VerifyReason)
  | _, 0, _ => none
  | i, n + 1, prevEnd =>
    match recordFault (slotGet m i) prevEnd with
    | some reason => some (i, reason)
    | none => firstFault m (i + 1) n ((slotGet m i).map recordEnd)

/-- The outcome of verifying records 0 .. N−1 (R52). -/
def verifyRecords (m : List (Nat × CurveRecord)) (n : Nat) : Option (Nat × VerifyReason) := firstFault m 0 n none

/-- The number of records examined: up to the first failing one (R53). -/
def examined (m : List (Nat × CurveRecord)) (n : Nat) : Nat :=
  match verifyRecords m n with
  | some (i, _) => i + 1
  | none => n

/-- Some bank is OPENING (R50). -/
def someOpening (c : CurveStore) : Bool :=
  c.bank0.state == .opening || c.bank1.state == .opening || c.bank2.state == .opening || c.bank3.state == .opening

/-- A burst is staged for a bank (R50, R58). -/
def stagedFor (c : CurveStore) (b : Fin 4) : Bool :=
  match c.staged with
  | some x => x.bank == b
  | none => false

/-- The bank a number names (checks of R44, R50, R57, R58, R59). -/
def bankNumber (n : Nat) : Option (Fin 4) := if h : n < 4 then some ⟨n, h⟩ else none

/-- Starting verification of a bank (R51); the bound of its completion follows from R53. -/
def startVerification (b : Fin 4) (n : Nat) (now : Nat) (c : CurveStore) : CurveStore :=
  { setBank c b { bankOf c b with state := .opening } with
    verifier := some {
      bank := b, expected := n, nextIndex := 0
      dueBy := now + examined (bankOf c b).slots n * Config.ticksPerRecord } }

/-- The checks of a BANK OPEN, in order, for a bank in range (R50). -/
def openRefusal (b : Fin 4) (n : Nat) (c : CurveStore) : Option ResultCode :=
  if n < 1 ∨ 512 < n then some .badArg
  else if (bankOf c b).state ≠ .closed ∧ (bankOf c b).state ≠ .failed then some .badArg
  else if someOpening c then some .busy
  else if stagedFor c b then some .pendingLoad
  else none

/-- The open result of OPEN-AFTER, judged as a BANK OPEN (R48). R48 shows that the refusals of checks 2 and 4
cannot occur here; they would be BAD_ARG. -/
def openAfter (asked : Bool) (b : Fin 4) (n : Nat) (now : Nat) (c : CurveStore) : CurveStore × OpenResult :=
  if asked then
    match openRefusal b n c with
    | none => (startVerification b n now c, .done)
    | some .busy => (c, .busy)
    | some _ => (c, .badArg)
  else (c, .notAsked)

/-- The store after the completion of a verification (R53, R54), with the outcome reported. -/
def completed (x : Verification) (c : CurveStore) : CurveStore × LastVerification :=
  let bk := bankOf c x.bank
  match verifyRecords bk.slots x.expected with
  | none =>
    ({ setBank c x.bank { bk with state := .opened, count := x.expected, last := .pass x.expected } with
        verifier := none },
      .pass x.expected)
  | some (i, reason) =>
    ({ setBank c x.bank { bk with state := .failed, last := .fail x.expected i reason } with verifier := none },
      .fail x.expected i reason)

/-- The completion of the verification (R53 to R55). With the verifier idle no completion occurs and nothing
changes (DESIGN CHOICE, entry 5, safe). -/
def verifyCompletes (s : State) : State :=
  match s.store.verifier with
  | none => s
  | some x =>
    sendReport (.bank x.bank (completed x s.store).2) { s with store := (completed x s.store).1 }

/-- VERIFY_COMPLETION (R53, R54). -/
def execVerifyCompletion (s : State) : Result := unlessHeld verifyCompletes s

/-! ### Requests -/

/-- A staged burst is discarded and the interruption count raised (R44, R49, R61). -/
def abandonStaged (c : CurveStore) : CurveStore :=
  match c.staged with
  | some _ => { c with staged := none, interruptions := count16 c.interruptions }
  | none => c

/-- The payload of a refused load: nothing written, no open attempted (R44, R47, R48; DEDUCED, entry 13). -/
def loadRefused (result : ResultCode) : Answer := answer result (.load false 0 .notAsked [])

/-- DONE, or CLAMPED when a value was stored lower than carried (R40). -/
def writeResult (ps : List (Option CarriedRecord)) : ResultCode := if anyLower ps then .clamped else .done

/-- A LOAD HEAD that has passed R44, on the store with a same-bank burst abandoned (R45, R46, R48). Bits 4 .. 7 of
its start and length byte and bits 1 .. 7 of its OPEN-AFTER byte are ignored (DESIGN CHOICE, entry 21). A CLAMPED
reply carries the values applied (R161), by position (DESIGN CHOICE, entry 23). -/
def actHead (b : Fin 4) (args : List Byte) (now : Nat) (c : CurveStore) : CurveStore × Answer :=
  let group := arg8 args 1
  let start := ((argByte args 2).extractLsb' 0 3).toNat
  let ps := argPositions args 6
  if argBit args 2 3 then
    ({ c with staged := some { bank := b, group := group, start := start, positions := ps } },
      answer .done (.load true 0 .notAsked []))
  else
    let r := openAfter (argBit args 3 0) b (arg16 args 4) now (writeBurst b (slotOfShort group start) ps c)
    (r.1, answer (writeResult ps) (.load false (presentCount ps) r.2 (appliedFrom 0 ps)))

/-- LOAD HEAD at the curve store: the checks of R44 in order. -/
def headStore (b : Fin 4) (args : List Byte) (now : Nat) (c : CurveStore) : CurveStore × Answer :=
  if 63 < arg8 args 1 then (c, loadRefused .badArg)
  else if (bankOf c b).state ≠ .closed then (c, loadRefused .bankClosed)
  else if c.staged.isSome ∧ ¬ stagedFor c b then (c, loadRefused .busy)
  else actHead b args now (abandonStaged c)

/-- LOAD HEAD (R44 to R46, R48, R61). Too few argument bytes are BAD_ARG before the checks of the bank and of the
staging buffer (DESIGN CHOICE, entry 26). -/
def takeLoadHead (r : Request) (s : State) : State × Answer :=
  if s.line.masked.load then (s, loadRefused .masked)
  else if r.args.length < 74 then (s, loadRefused .badArg)
  else
    match bankNumber (arg8 r.args 0) with
    | none => (s, loadRefused .badArg)
    | some b =>
      let x := headStore b r.args s.clock.now s.store
      ({ s with store := x.1 }, x.2)

/-- A LOAD TAIL that matches the staged burst (R47, R48). Bits 1 .. 7 of its OPEN-AFTER byte are ignored (DESIGN
CHOICE, entry 21). A CLAMPED reply carries the values applied (R161), by position (DESIGN CHOICE, entry 23). -/
def actTail (x : StagedBurst) (args : List Byte) (now : Nat) (c : CurveStore) : CurveStore × Answer :=
  let ps := x.positions ++ argPositions args 5
  let r := openAfter (argBit args 2 0) x.bank (arg16 args 3) now
    { writeBurst x.bank (slotOfLong x.group x.start) ps c with staged := none }
  (r.1, answer (writeResult ps) (.load false (presentCount ps) r.2 (appliedFrom 0 ps)))

/-- LOAD TAIL (R47, R48, R61). -/
def takeLoadTail (r : Request) (s : State) : State × Answer :=
  if s.line.masked.load then (s, loadRefused .masked)
  else if r.args.length < 73 then (s, loadRefused .badArg)
  else
    match s.store.staged with
    | none => (s, loadRefused .badArg)
    | some x =>
      if arg8 r.args 0 = x.bank ∧ arg8 r.args 1 = x.group then
        let y := actTail x r.args s.clock.now s.store
        ({ s with store := y.1 }, y.2)
      else (s, loadRefused .badArg)

/-- BANK OPEN (R50, R51). -/
def takeBankOpen (r : Request) (s : State) : State × Answer :=
  if r.args.length < 3 then (s, answer .badArg)
  else
    match bankNumber (arg8 r.args 0) with
    | none => (s, answer .badArg)
    | some b =>
      match openRefusal b (arg16 r.args 1) s.store with
      | some code => (s, answer code)
      | none =>
        ({ s with store := startVerification b (arg16 r.args 1) s.clock.now s.store }, answer .done)

/-- The bank is referenced by the active section (R37). -/
def bankInUse (w : Walker) (b : Fin 4) : Bool :=
  match slotGet w.descs w.active with
  | some { kind := .curveList b' _ _, .. } => w.active != 0 && b' == b
  | _ => false

/-- The store with a bank CLOSED. -/
def closeBank (b : Fin 4) (c : CurveStore) : CurveStore := setBank c b { bankOf c b with state := .closed }

/-- The N of the verification of an OPENING bank, which the verifier holds (R41). -/
def expectedCount (c : CurveStore) : Nat := match c.verifier with | some x => x.expected | none => 0

/-- The store with an OPENING bank's verification abandoned (R57). -/
def abandonVerification (b : Fin 4) (c : CurveStore) : CurveStore :=
  { setBank c b { bankOf c b with state := .closed, last := .abandoned (expectedCount c) } with verifier := none }

/-- BANK CLOSE (R57). -/
def takeBankClose (r : Request) (s : State) : State × Answer :=
  if r.args.length < 1 then (s, answer .badArg)
  else
    match bankNumber (arg8 r.args 0) with
    | none => (s, answer .badArg)
    | some b =>
      match (bankOf s.store b).state with
      | .closed => (s, answer .done)
      | .opened =>
        if bankInUse s.walker b then (s, answer .inUse) else ({ s with store := closeBank b s.store }, answer .done)
      | .failed => ({ s with store := closeBank b s.store }, answer .done)
      | .opening =>
        (sendReport (.bank b (.abandoned (expectedCount s.store))) { s with store := abandonVerification b s.store },
          answer .done)

/-- The store with a bank erased (R58). -/
def eraseBank (b : Fin 4) (c : CurveStore) : CurveStore :=
  setBank c b { bankOf c b with slots := [], count := 0, last := .none }

/-- BANK ERASE (R58, R61). -/
def takeBankErase (r : Request) (s : State) : State × Answer :=
  if s.line.masked.load then (s, answer .masked)
  else if r.args.length < 1 then (s, answer .badArg)
  else
    match bankNumber (arg8 r.args 0) with
    | none => (s, answer .badArg)
    | some b =>
      if (bankOf s.store b).state ≠ .closed then (s, answer .bankClosed)
      else if stagedFor s.store b then (s, answer .pendingLoad)
      else ({ s with store := eraseBank b s.store }, answer .done)

/-- RECORD READ (R59). -/
def takeRecordRead (r : Request) (s : State) : State × Answer :=
  if r.args.length < 3 then (s, answer .badArg)
  else
    match bankNumber (arg8 r.args 0) with
    | none => (s, answer .badArg)
    | some b =>
      if 511 < arg16 r.args 1 then (s, answer .badArg)
      else
        (s, answer .done
          (.record (bankOf s.store b).state (recordBytes (slotGet (bankOf s.store b).slots (arg16 r.args 1)))))

/-- Masking of LOAD at the store (R61). -/
def maskLoad (s : State) : State := { s with store := abandonStaged s.store }

/-- RESTART at the store: a staged burst is discarded, the interruption count unchanged (R41, R49). -/
def restartStore (s : State) : State := { s with store := { s.store with staged := none } }

end Sys2Proof.Machine
end

