-- ==== Sys2Proof/Machine/Walker.lean ====
section
/-! DEFINITION. The section walker (02): the descriptor requests, SECTION SELECT, the record cursor and the walk. -/

namespace Sys2Proof.Machine

/-! ### Sections -/

/-- The extent of a descriptor (R22). -/
def extent (d : Descriptor) : Nat :=
  match d.granularity with
  | .fine => d.lengthField + 1
  | .coarse => (d.lengthField + 1) * 64

/-- The high end of a section (R22); the low end is its base. -/
def highEdge (d : Descriptor) : Nat := d.base + extent d - 1

/-- Where a point lies with respect to a section, in a direction of travel (R22). -/
inductive Place where
  | inside
  | beyond
  | behind
  deriving DecidableEq, Repr

/-- The place of a point with respect to a section when travelling with direction factor dir (R22). -/
def placeOf (d : Descriptor) (dir : Int) (p : Nat) : Place :=
  if p < d.base then (if 0 < dir then .behind else .beyond)
  else if highEdge d < p then (if 0 < dir then .beyond else .behind)
  else .inside

/-- The link followed when leaving forward, past the far edge (R23). -/
def forwardLink (d : Descriptor) (dir : Int) : Nat := if 0 < dir then d.nextUp else d.nextDown

/-- The link followed when leaving backward, past the near edge (R23). -/
def backwardLink (d : Descriptor) (dir : Int) : Nat := if 0 < dir then d.nextDown else d.nextUp

/-- The entry checks 1 to 4 of R35 on a selector: the descriptor, or the first cause. -/
def entryCheck (w : Walker) (c : CurveStore) (sel : Nat) : Except EntryCause Descriptor :=
  match slotGet w.descs sel with
  | none => .error .sectionAbsent
  | some d =>
    match d.kind with
    | .invalid => .error .sectionType
    | .curveList b first count =>
      if (bankOf c b).state ≠ .opened then .error .bankNotOpen
      else if (bankOf c b).count < first + count then .error .sectionRange
      else .ok d
    | _ => .ok d

/-! ### The walk (R32 to R36) -/

/-- The outcome of a walk: the section entered, or the cause of the failure and the lost-at selector. -/
inductive WalkOutcome where
  | entered (sel : Nat)
  | lost (cause : NullCause) (lostAt : Nat)
  deriving DecidableEq, Repr

/-- The forward walk (R33): from the section `sel` with descriptor `d`, at most `links` further links. -/
def walkForward (w : Walker) (c : CurveStore) (dir : Int) (p : Nat) : Nat → Nat → Descriptor → WalkOutcome
  | 0, sel, _ => .lost .sectionLost sel
  | links + 1, sel, d =>
    if forwardLink d dir = 0 then .lost .sectionLost sel
    else
      match entryCheck w c (forwardLink d dir) with
      | .error cause => .lost (.entry cause) (forwardLink d dir)
      | .ok d' =>
        match placeOf d' dir p with
        | .inside => .entered (forwardLink d dir)
        | .beyond => walkForward w c dir p links (forwardLink d dir) d'
        | .behind => .lost .sectionLost (forwardLink d dir)

/-- The backward walk (R34), of one link. -/
def walkBackward (w : Walker) (c : CurveStore) (dir : Int) (p : Nat) (sel : Nat) (d : Descriptor) : WalkOutcome :=
  if backwardLink d dir = 0 then .lost .sectionLost sel
  else
    match entryCheck w c (backwardLink d dir) with
    | .error cause => .lost (.entry cause) (backwardLink d dir)
    | .ok d' =>
      match placeOf d' dir p with
      | .inside => .entered (backwardLink d dir)
      | _ => .lost .sectionLost (backwardLink d dir)

/-- The walker after a failed walk (R36). -/
def loseSection (cause : NullCause) (lostAt : Nat) (w : Walker) : Walker :=
  { w with
    active := 0, cursor := .unplaced, nullCause := cause, lostAt := lostAt, losses := count16 w.losses
    lastPoint := none, lastDir := none }

/-- The walker after a walk (R33, R34, R36). -/
def settleWalk (o : WalkOutcome) (w : Walker) : Walker :=
  match o with
  | .entered sel => { w with active := sel, cursor := .unplaced }
  | .lost cause lostAt => loseSection cause lostAt w

/-- The direction a direction factor names. -/
def dirOf (d : Int) : Direction := if 0 < d then .up else .down

/-- The query has a new direction, or its point lies behind the last walk point (R30). -/
def cursorStale (w : Walker) (dir : Int) (p : Nat) : Bool :=
  (match w.lastDir with | some x => x != dirOf dir | none => false)
    || (match w.lastPoint with | some x => decide (dir * ((p : Int) - x) < 0) | none => false)

/-- The walker marks the cursor UNPLACED for a new direction or a backward point (R30, R31). -/
def refreshCursor (dir : Int) (p : Nat) (w : Walker) : Walker :=
  if cursorStale w dir p then { w with cursor := .unplaced } else w

/-- The walk of one geometry query on a non-null selector (R31). An active selector that names no present
descriptor is excluded by R38; the walk would fail on it with SECTION_ABSENT (DESIGN CHOICE, entry 15). -/
def walk (c : CurveStore) (dir : Int) (p : Nat) (w : Walker) : Walker :=
  match slotGet w.descs w.active with
  | none => loseSection (.entry .sectionAbsent) w.active w
  | some d =>
    match placeOf d dir p with
    | .inside => w
    | .beyond => settleWalk (walkForward w c dir p 4 w.active d) w
    | .behind => settleWalk (walkBackward w c dir p w.active d) w

/-! ### The record cursor (R30, R64, R65) -/

/-- A record exists at an index and its end is above p. -/
def endsAbove (m : List (Nat × CurveRecord)) (p i : Nat) : Bool :=
  match slotGet m i with
  | some r => decide (p < recordEnd r)
  | none => false

/-- A record exists at an index and its start is at most p. -/
def startsAtMost (m : List (Nat × CurveRecord)) (p i : Nat) : Bool :=
  match slotGet m i with
  | some r => decide (r.start ≤ p)
  | none => false

/-- The indices of a section's records, rising. -/
def recordIndices (first count : Nat) : List Nat := (List.range count).map (first + ·)

/-- The cursor placed by search (R30): UP the lowest index whose end is above p, DOWN the highest whose start
is at most p. -/
def placeCursor (m : List (Nat × CurveRecord)) (dir : Int) (p first count : Nat) : Cursor :=
  let hit :=
    if 0 < dir then (recordIndices first count).find? (endsAbove m p)
    else (recordIndices first count).reverse.find? (startsAtMost m p)
  match hit with
  | some i => .atRecord i
  | none => .exhausted

/-- The cursor moved on travelling UP (R64), over at most `fuel` records. -/
def moveUp (m : List (Nat × CurveRecord)) (p last : Nat) : Nat → Nat → Cursor
  | 0, _ => .exhausted
  | fuel + 1, i =>
    if endsAbove m p i then .atRecord i else if i = last then .exhausted else moveUp m p last fuel (i + 1)

/-- The cursor moved on travelling DOWN (R65), over at most `fuel` records. -/
def moveDown (m : List (Nat × CurveRecord)) (p first : Nat) : Nat → Nat → Cursor
  | 0, _ => .exhausted
  | fuel + 1, i =>
    if startsAtMost m p i then .atRecord i else if i = first then .exhausted else moveDown m p first fuel (i - 1)

/-- The cursor placed, moved on or left EXHAUSTED for a section of records (R30, R64, R65). -/
def advanceCursor (m : List (Nat × CurveRecord)) (dir : Int) (p first count : Nat) : Cursor → Cursor
  | .unplaced => placeCursor m dir p first count
  | .exhausted => .exhausted
  | .atRecord i =>
    if 0 < dir then moveUp m p (first + count - 1) (count + 1) i else moveDown m p first (count + 1) i

/-- The walker with its cursor placed or moved in the active section (R30, R64, R65); in a section without
records the cursor stays as it is. -/
def settleCursor (c : CurveStore) (dir : Int) (p : Nat) (w : Walker) : Walker :=
  match slotGet w.descs w.active with
  | some { kind := .curveList b first count, .. } =>
    { w with cursor := advanceCursor (bankOf c b).slots dir p first count w.cursor }
  | _ => w

/-- The walker over a geometry query with a usable position and a non-null selector (R31): the walk, then
the cursor and the last walk point and direction when the walk leaves a section active. -/
def walkQuery (c : CurveStore) (dir : Int) (p : Nat) (w : Walker) : Walker :=
  let w1 := walk c dir p (refreshCursor dir p w)
  if w1.active = 0 then w1
  else { settleCursor c dir p w1 with lastPoint := some p, lastDir := some (dirOf dir) }

/-! ### Requests -/

/-- The write level a selector's descriptor holds, 3 when it is not present (R21). -/
def writeLevelOf (w : Walker) (sel : Nat) : Nat :=
  match slotGet w.descs sel with
  | some d => d.writeLevel
  | none => 3

/-- The kind a DESC WRITE asks for, when its type and optional part pass R25. -/
def kindOfFields (f : DescFields) : Option SectionKind :=
  match f.typeCode with
  | 0 => some .invalid
  | 1 =>
    match bankNumber f.bank with
    | some b =>
      if f.first ≤ 511 ∧ f.count ≤ 512 ∧ f.first + f.count ≤ 512 then some (.curveList b f.first f.count) else none
    | none => none
  | 2 => some .plain
  | 3 => some .noTilt
  | 4 => if f.limit ≤ 800 then some (.reduced f.limit) else none
  | _ => none

/-- The descriptor a DESC WRITE stores at an effective level (R26), when its fields pass R25. -/
def descriptorOf (f : DescFields) (level : Nat) : Option Descriptor :=
  match kindOfFields f with
  | none => none
  | some kind =>
    let d : Descriptor :=
      { kind := kind, base := f.base, lengthField := f.lengthField, granularity := f.granularity
        nextUp := f.nextUp, nextDown := f.nextDown, writeLevel := max (min f.writeLevel 3) level }
    if Config.maxChainage < highEdge d then none
    else if 63 < f.nextUp ∨ 63 < f.nextDown then none
    else some d

/-- DESC WRITE: the checks of R24 in order, then R26. Too few argument bytes are BAD_ARG before all of them, also when
the selector they name is protected or active (DESIGN CHOICE, entry 26). -/
def takeDescWrite (r : Request) (s : State) : State × Answer :=
  let f := descFields r.args
  if r.args.length < 17 then (s, answer .badArg)
  else if f.selector = 0 ∨ 63 < f.selector then (s, answer .badArg)
  else if writeLevelOf s.walker f.selector < r.level then (s, answer .level)
  else if f.selector = s.walker.active then (s, answer .inUse)
  else
    match descriptorOf f r.level with
    | none => (s, answer .badArg)
    | some d =>
      ({ s with walker := { s.walker with descs := slotSet s.walker.descs f.selector d } },
        answer (if min f.writeLevel 3 < r.level then .clamped else .done) (.writeLevel d.writeLevel))

/-- DESC CLEAR: the checks of R27 in order. -/
def takeDescClear (r : Request) (s : State) : State × Answer :=
  let sel := arg8 r.args 0
  if r.args.length < 1 then (s, answer .badArg)
  else if sel = 0 ∨ 63 < sel then (s, answer .badArg)
  else if writeLevelOf s.walker sel < r.level then (s, answer .level)
  else if sel = s.walker.active then (s, answer .inUse)
  else if (slotGet s.walker.descs sel).isNone then (s, answer .absent)
  else ({ s with walker := { s.walker with descs := slotErase s.walker.descs sel } }, answer .done)

/-- DESC READ (R28). -/
def takeDescRead (r : Request) (s : State) : State × Answer :=
  let sel := arg8 r.args 0
  if r.args.length < 1 then (s, answer .badArg)
  else if sel = 0 ∨ 63 < sel then (s, answer .badArg)
  else
    (s, answer .done (.descriptor (descriptorBytes sel (slotGet s.walker.descs sel)) (sel == s.walker.active)))

/-- The refusals of SECTION SELECT for a selector 1 .. 63, in order (R29). -/
def selectRefusal (w : Walker) (c : CurveStore) (sel : Nat) : Option ResultCode :=
  match slotGet w.descs sel with
  | none => some .absent
  | some d =>
    match d.kind with
    | .invalid => some .absent
    | .curveList b first count =>
      if (bankOf c b).state ≠ .opened then some .bankClosed
      else if (bankOf c b).count < first + count then some .badArg
      else none
    | _ => none

/-- The walker after SECTION SELECT of 0 (R29, R36). -/
def selectNull (w : Walker) : Walker :=
  { w with
    active := 0, cursor := .unplaced, nullCause := .select, lostAt := 0, lastPoint := none, lastDir := none }

/-- The walker after SECTION SELECT of a section (R29). -/
def selectSection (sel : Nat) (w : Walker) : Walker :=
  { w with active := sel, cursor := .unplaced, lastPoint := none, lastDir := none }

/-- SECTION SELECT (R29), clearing the DISAGREE latch and the run count on DONE (R110). -/
def takeSectionSelect (r : Request) (s : State) : State × Answer :=
  let sel := arg8 r.args 0
  if r.args.length < 1 then (s, answer .badArg)
  else if sel = 0 then
    ({ s with walker := selectNull s.walker, demand := clearDisagree s.demand }, answer .done (.selector 0))
  else if 63 < sel then (s, answer .badArg)
  else
    match selectRefusal s.walker s.store sel with
    | some code => (s, answer code)
    | none =>
      ({ s with walker := selectSection sel s.walker, demand := clearDisagree s.demand },
        answer .done (.selector sel))

end Sys2Proof.Machine
end

