-- ==== Sys2Proof/Machine/Geometry.lean ====
section
/-! DEFINITION. Geometry and restriction lookahead (04): curvature and cant at p, the restriction search, the
effective limit and the route answer. -/

namespace Sys2Proof.Machine

/-! ### Geometry at the preview point (R66 to R68) -/

/-- Geometry at a point, route frame: curvature and cant, with the compensation percentage and the index of the
record that holds the point, when one does. -/
structure PointGeometry where
  kappa : Int
  cant : Int
  comp : Option Nat
  record : Option Nat
  deriving DecidableEq, Repr

/-- Geometry where no record holds the point (R67). -/
def flatGeometry : PointGeometry := { kappa := 0, cant := 0, comp := none, record := none }

/-- A record holds a point (R66). -/
def recordHolds (r : CurveRecord) (p : Nat) : Bool := r.start ≤ p && p < recordEnd r

/-- A body value read at a point of a record that holds it: rising over the entry transition, constant over the
body, falling over the exit transition, with divisions toward zero (R66). -/
def transitionValue (r : CurveRecord) (value : Int) (p : Nat) : Int :=
  if p < r.start + r.entry then truncDiv (value * ((p : Int) - r.start)) r.entry
  else if p < r.start + r.entry + r.body then value
  else truncDiv (value * ((recordEnd r : Int) - p)) r.exit

/-- Geometry at a point from the cursor (R66, R67). -/
def geometryAt (m : List (Nat × CurveRecord)) (cur : Cursor) (p : Nat) : PointGeometry :=
  match cur with
  | .atRecord i =>
    match slotGet m i with
    | some r =>
      if recordHolds r p then
        { kappa := transitionValue r r.kappa p, cant := transitionValue r r.cant p, comp := r.comp, record := some i }
      else flatGeometry
    | none => flatGeometry
  | _ => flatGeometry

/-- Route-frame geometry of a section (R66, R67). -/
def sectionGeometry (c : CurveStore) (cur : Cursor) (d : Descriptor) (p : Nat) : PointGeometry :=
  match d.kind with
  | .curveList b _ _ => geometryAt (bankOf c b).slots cur p
  | _ => flatGeometry

/-- Geometry in the train frame (R68). -/
def trainGeometry (dir : Int) (g : PointGeometry) : PointGeometry :=
  { g with kappa := dir * g.kappa, cant := dir * g.cant }

/-! ### The lookahead point (R69) -/

/-- The lookahead distance; the magnitude of an unknown previous command is 800 (R69). -/
def lookaheadDistance (pa : PositionAnswer) (prev : Option Int) (rateMax : Nat) : Nat :=
  ceilDiv (pa.v * (prev.map Int.natAbs).getD 800) (10 * rateMax) + pa.previewDm

/-- The lookahead point r (R69). -/
def lookaheadPoint (pa : PositionAnswer) (prev : Option Int) (rateMax : Nat) : Nat :=
  saturate (pa.car + pa.d * lookaheadDistance pa prev rateMax)

/-! ### The restriction search (R70, R71) -/

/-- A restriction found: its value, its source, and its distance from the car chainage (R71). -/
structure Restriction where
  value : Nat
  source : RestrictionSource
  distance : Nat
  deriving DecidableEq, Repr

/-- A restriction of a section that holds from chainage a to b contributes a value at a source when some chainage
where it holds lies in the section's extent and in the search range between the car chainage and r; its distance is
that from the car chainage to the first chainage within the search range at which it holds (R71). -/
def contribution (d : Descriptor) (dir : Int) (car r : Nat) (source : RestrictionSource) (value a b : Nat) :
    List Restriction :=
  let lo := max a (min car r)
  let hi := min b (max car r)
  if max lo d.base ≤ min hi (highEdge d) then
    [{ value := value, source := source, distance := if 0 < dir then lo - car else car - hi }]
  else []

/-- The tilt limit a record holds: 0 under NO_TILT, else its own limit, if any (R71). -/
def recordLimit (r : CurveRecord) : Option Nat := if r.noTilt then some 0 else r.limit

/-- The contribution of the record at an index of a section (R71). A record of no length covers nothing. -/
def recordContribution (m : List (Nat × CurveRecord)) (sel : Nat) (d : Descriptor) (dir : Int) (car r i : Nat) :
    List Restriction :=
  match slotGet m i with
  | none => []
  | some x =>
    match recordLimit x with
    | none => []
    | some value =>
      if x.start < recordEnd x then contribution d dir car r ⟨sel, some i⟩ value x.start (recordEnd x - 1) else []

/-- The restrictions a section contributes (R71). -/
def sectionRestrictions (c : CurveStore) (sel : Nat) (d : Descriptor) (dir : Int) (car r : Nat) : List Restriction :=
  match d.kind with
  | .noTilt => contribution d dir car r ⟨sel, none⟩ 0 d.base (highEdge d)
  | .reduced limit => contribution d dir car r ⟨sel, none⟩ limit d.base (highEdge d)
  | .curveList b first count =>
    (recordIndices first count).flatMap (recordContribution (bankOf c b).slots sel d dir car r)
  | _ => []

/-- Of two restrictions the lower, of equal ones the nearer, of those the first (R71). -/
def lowerOf (x y : Restriction) : Restriction :=
  if y.value < x.value ∨ (y.value = x.value ∧ y.distance < x.distance) then y else x

/-- The lowest restriction of a list, the active section's contributions standing first (R71). -/
def lowest : List Restriction → Option Restriction
  | [] => none
  | x :: xs => some (xs.foldl lowerOf x)

/-- What a restriction search finds: known, with the lowest restriction if any, or unknown with a cause. -/
inductive SearchResult where
  | known (found : Option Restriction)
  | unknown (cause : UnknownCause)
  deriving DecidableEq, Repr

/-- The restriction search of the active section and, when r lies beyond it, of the next (R70 to R72). -/
def searchRestrictions (w : Walker) (c : CurveStore) (d : Descriptor) (dir : Int) (car r : Nat) : SearchResult :=
  let here := sectionRestrictions c w.active d dir car r
  if placeOf d dir r = .beyond then
    if forwardLink d dir = 0 then .unknown .noNext
    else
      match entryCheck w c (forwardLink d dir) with
      | .error cause => .unknown (.entry cause)
      | .ok d' => .known (lowest (here ++ sectionRestrictions c (forwardLink d dir) d' dir car r))
  else .known (lowest here)

/-- L_eff from the restriction outcome (R73). -/
def effectiveLimit (p : Params) (res : SearchResult) : Nat :=
  match res with
  | .known (some x) => min p.tiltLimit x.value
  | .known none => p.tiltLimit
  | .unknown _ => min p.tiltLimit p.reducedLimit

/-! ### The route answer (R62, R63, R74) -/

/-- The form of a route answer (R62); SECTION carries the train-frame geometry. -/
inductive RouteForm where
  | unavailable
  | noSection
  | onSection (g : PointGeometry)
  deriving DecidableEq, Repr

/-- A route answer (R62): the form with its geometry, the active selector and its type with the optional part, the
restriction outcome with the lowest restriction found and its source (none when none was found or the outcome is
UNKNOWN), and L_eff. -/
structure RouteAnswer where
  form : RouteForm
  active : Nat
  kind : Option SectionKind
  outcome : RestrictionOutcome
  lowest : Option Nat
  source : Option RestrictionSource
  lEff : Nat
  deriving DecidableEq, Repr

/-- The causes that count as lookahead failures: those of R72 (R63). -/
def lookaheadFailure : UnknownCause → Bool
  | .position => false
  | .noSection => false
  | .noNext => true
  | .entry _ => true

/-- The outcome of a search as R62 gives it. -/
def outcomeOf : SearchResult → RestrictionOutcome
  | .known _ => .known
  | .unknown cause => .unknown cause

/-- The restriction a search found, if any. -/
def foundOf : SearchResult → Option Restriction
  | .known x => x
  | .unknown _ => none

/-- A route answer of a form and an active section, with the search result it carries. -/
def routeAnswer (p : Params) (form : RouteForm) (active : Nat) (kind : Option SectionKind) (res : SearchResult) :
    RouteAnswer where
  form := form
  active := active
  kind := kind
  outcome := outcomeOf res
  lowest := (foundOf res).map Restriction.value
  source := (foundOf res).map Restriction.source
  lEff := effectiveLimit p res

/-- The route answer of form UNAVAILABLE (R62). -/
def unavailableAnswer (p : Params) : RouteAnswer := routeAnswer p .unavailable 0 none (.unknown .position)

/-- The route answer of form NO SECTION (R62). -/
def noSectionAnswer (p : Params) : RouteAnswer := routeAnswer p .noSection 0 none (.unknown .noSection)

/-- The route answer of form SECTION on the active section after the walk, of descriptor d (R62). -/
def sectionAnswer (pa : PositionAnswer) (prev : Option Int) (p : Params) (w : Walker) (c : CurveStore)
    (d : Descriptor) : RouteAnswer :=
  routeAnswer p (.onSection (trainGeometry pa.d (sectionGeometry c w.cursor d pa.p))) w.active (some d.kind)
    (searchRestrictions w c d pa.d pa.car (lookaheadPoint pa prev p.rateMax))

/-- The route answer after the walk (R62). -/
def answerOn (pa : PositionAnswer) (prev : Option Int) (p : Params) (w : Walker) (c : CurveStore) : RouteAnswer :=
  if w.active = 0 then noSectionAnswer p
  else
    match slotGet w.descs w.active with
    | none => noSectionAnswer p
    | some d => sectionAnswer pa prev p w c d

/-- The lookahead items after a route answer: its own values, and the count of failures (R63). -/
def noteAnswer (ra : RouteAnswer) (l : Lookahead) : Lookahead where
  outcome := ra.outcome
  lowest := ra.lowest
  source := ra.source
  lEff := ra.lEff
  failures :=
    match ra.outcome with
    | .known => l.failures
    | .unknown cause => if lookaheadFailure cause then count16 l.failures else l.failures

/-- The geometry query and its route answer (R31, R62, R63, R74). -/
def geometryQuery (pa : PositionAnswer) (s : State) : State × RouteAnswer :=
  let w := if pa.usable && s.walker.active != 0 then walkQuery s.store pa.d pa.p s.walker else s.walker
  let ra := if pa.usable then answerOn pa s.mode.prevCommand s.params w s.store else unavailableAnswer s.params
  ({ s with walker := w, look := noteAnswer ra s.look }, ra)

end Sys2Proof.Machine
end

