-- ==== Sys2Proof/Machine/Demand.lean ====
section
/-! DEFINITION. The demand unit (06): the stages of a step from the source values to the car-frame target. -/

namespace Sys2Proof.Machine

/-- The predictive acceleration (R100). -/
def predictiveAccel (v : Nat) (g : PointGeometry) : Int :=
  clampTo 3000 (roundDiv ((v : Int) * v * g.kappa) 10000000 - roundDiv (9807 * g.cant) 1500)

/-- The angle of an acceleration at a compensation percentage (R103). -/
def angleOf (k : Nat) (a : Int) : Int := roundDiv ((k : Int) * a * 5730) 980700

/-- The compensation percentage of a step (R102). -/
def compensation (p : Params) (f : RouteForm) : Nat :=
  match f with
  | .onSection g => g.comp.getD p.compPct
  | _ => p.compPct

/-- The predictive acceleration formed in a mode (R100, R113). -/
def formPredictive (m : Mode) (v : Nat) (f : RouteForm) : Option Int :=
  match f with
  | .onSection g => if tilting m then some (predictiveAccel v g) else none
  | _ => none

/-- The reactive acceleration formed in a mode (R101, R113). -/
def formReactive (m : Mode) (a : ReactiveAnswer) : Option Int :=
  match a with
  | .interpolated x _ _ => if tilting m then some (clampTo 3000 x) else none
  | .held x _ => if tilting m then some (clampTo 3000 x) else none
  | _ => none

/-- Availability of the predictive source, with the reason of the first failing row (R104). -/
def predictiveAvailability (m : Mode) (f : RouteForm) (latch : Bool) : PredictiveAvailability :=
  if m ≠ .predictive then .mode
  else
    match f with
    | .unavailable => .position
    | .noSection => .noSection
    | .onSection _ => if latch then .disagree else .available

/-- Availability of the reactive source (R105). -/
def reactiveAvailability (m : Mode) (a : ReactiveAnswer) : ReactiveAvailability :=
  if !tilting m then .mode
  else
    match a with
    | .gap => .gap
    | .invalid => .invalid
    | _ => .available

/-- The weighted blend of both angles (R106). -/
def weightedBlend (w : Nat) (p r : Int) : Int := roundDiv ((w : Int) * p + (100 - (w : Int)) * r) 100

/-- θ_b, the fade count and FADING of a step that tilts, from the angles of the available sources and the
old θ_b and fade count (R106, R107). -/
def blend (p : Params) (thetaB : Int) (fade : Nat) (tp tr : Option Int) : Int × Nat × Bool :=
  match tp, tr with
  | some x, some y => (weightedBlend p.wPred x y, 0, false)
  | some x, none => (x, 0, false)
  | none, some y => (y, 0, false)
  | none, none => if fade < p.holdSteps then (thetaB, fade + 1, true) else (0, fade, true)

/-- The run count of a step, before the latch is judged, from the angles of the available sources (R108). -/
def disagreement (p : Params) (run : Nat) (tp tr : Option Int) : Nat :=
  match tp, tr with
  | some x, some y => if p.disagreeCdeg < (x - y).natAbs then run + 1 else 0
  | _, _ => 0

/-- The run count, increased by R108, reaches or passes disagree_steps (R109). -/
def setsLatch (p : Params) (run : Nat) : Bool := run != 0 && decide (p.disagreeSteps ≤ run)

/-- What the stages of a step give (R99). -/
structure Stages where
  predictive : PredictiveAvailability
  reactive : ReactiveAvailability
  aP : Option Int
  aR : Option Int
  k : Nat
  thetaP : Option Int
  thetaR : Option Int
  thetaB : Int
  fade : Nat
  run : Nat
  gated : Bool
  limited : Bool
  fading : Bool
  target : Int
  deriving DecidableEq, Repr

/-- The stages in the modes that do not tilt (R113); the compensation percentage is that of R102 (entry 8). -/
def idleStages (p : Params) (f : RouteForm) : Stages where
  predictive := .mode
  reactive := .mode
  aP := none
  aR := none
  k := compensation p f
  thetaP := none
  thetaR := none
  thetaB := 0
  fade := 0
  run := 0
  gated := false
  limited := false
  fading := false
  target := 0

/-- The stages of R100 to R112 in the modes that tilt. -/
def tiltStages (p : Params) (m : Mode) (x : DemandUnit) (v : Nat) (ra : RouteAnswer) (re : ReactiveAnswer) :
    Stages :=
  let k := compensation p ra.form
  let aP := formPredictive m v ra.form
  let aR := formReactive m re
  let pred := predictiveAvailability m ra.form x.latch
  let react := reactiveAvailability m re
  let tp := if pred = .available then aP.map (angleOf k) else none
  let tr := if react = .available then aR.map (angleOf k) else none
  let b := blend p x.thetaB x.fadeCount tp tr
  let gated := gatedFlag p v
  let demand := if gated then 0 else b.1
  { predictive := pred
    reactive := react
    aP := aP
    aR := aR
    k := k
    thetaP := aP.map (angleOf k)
    thetaR := aR.map (angleOf k)
    thetaB := b.1
    fade := b.2.1
    run := disagreement p x.runCount tp tr
    gated := gated
    limited := limitFlag ra.lEff demand
    fading := b.2.2
    target := clampTo ra.lEff demand }

/-- The stages of a step, by the mode read (R98, R113). -/
def stagesOf (p : Params) (m : Mode) (x : DemandUnit) (v : Nat) (ra : RouteAnswer) (re : ReactiveAnswer) : Stages :=
  if tilting m then tiltStages p m x v ra re else idleStages p ra.form

/-- The demand unit's items after the stages (R106 to R109, R113). -/
def stagedDemand (p : Params) (g : Stages) (x : DemandUnit) : DemandUnit :=
  { x with
    thetaB := g.thetaB, fadeCount := g.fade
    runCount := if setsLatch p g.run then 0 else g.run
    latch := x.latch || setsLatch p g.run
    latchSettings := if setsLatch p g.run then count16 x.latchSettings else x.latchSettings }

/-- The DISAGREE report of a step that sets the latch (R109). -/
def disagreeReport (g : Stages) (pa : PositionAnswer) (ra : RouteAnswer) : Report :=
  .disagree {
    thetaP := g.thetaP.getD 0, thetaR := g.thetaR.getD 0, run := g.run, car := pa.car, active := ra.active }

/-- The demand unit runs the stages, and reports a latch it sets (R98 step 4, R109). -/
def runStages (g : Stages) (pa : PositionAnswer) (ra : RouteAnswer) (s : State) : State :=
  let s1 := { s with demand := stagedDemand s.params g s.demand }
  if setsLatch s.params g.run then sendReport (disagreeReport g pa ra) s1 else s1

/-- The step summary (R99). -/
def summaryOf (m : Mode) (pa : PositionAnswer) (ra : RouteAnswer) (g : Stages) (command : Option Int)
    (rate : Bool) : StepSummary where
  mode := m
  car := pa.car
  v := pa.v
  active := ra.active
  predictive := g.predictive
  reactive := g.reactive
  aP := g.aP
  aR := g.aR
  k := g.k
  thetaP := g.thetaP
  thetaR := g.thetaR
  thetaB := g.thetaB
  target := g.target
  lEff := ra.lEff
  gated := g.gated
  limited := g.limited
  restrictionUnknown := restrictionUnknownFlag ra.outcome
  fading := g.fading
  rate := rate
  carTarget := pa.o * g.target
  command := command

end Sys2Proof.Machine
end

