-- ==== Sys2Proof/Machine/DrivePort.lean ====
section
/-! DEFINITION. The actuator drive port (08): the stroke conversions, the exchange at a step, DRIVE_ACK, STROKE
LOAD and STROKE READ; and the step itself (R97, R98). -/

namespace Sys2Proof.Machine

/-! ### Conversions (R147 to R149) -/

/-- The stroke S[i] of a table. -/
def strokeAt (t : List Int) (i : Nat) : Int := t.getD i 0

/-- The division by 100 of the forward conversion, by the rounding mode (R148). -/
def strokeDiv (m : Rounding) (n : Int) : Int :=
  match m with
  | .nearest => (n + 50) / 100
  | .truncate => n / 100

/-- The segment of a command angle (R148). -/
def segmentOf (theta : Int) : Nat := min 15 ((theta + 800) / 100).toNat

/-- The forward conversion of a command angle to a target stroke (R148). -/
def toStroke (t : List Int) (m : Rounding) (theta : Int) : Int :=
  let i := segmentOf theta
  strokeAt t i + strokeDiv m ((strokeAt t (i + 1) - strokeAt t i) * (theta - (-800 + 100 * (i : Int))))

/-- The segment holding an actual stroke that lies in the table: the lowest i of 0 .. 15 with
S[i] ≤ x < S[i + 1], or 15 (R149). -/
def strokeSegment (t : List Int) (x : Int) : Nat :=
  ((List.range 16).find? fun i => decide (strokeAt t i ≤ x) && decide (x < strokeAt t (i + 1))).getD 15

/-- Division to the nearest integer, a half rounding up, of a number that is not negative (R149). -/
def nearestDiv (n d : Int) : Int := (2 * n + d) / (2 * d)

/-- The inverse conversion of an actual stroke to an angle (R149). -/
def toAngle (t : List Int) (x : Int) : Int :=
  if x < strokeAt t 0 then -800
  else if strokeAt t 16 < x then 800
  else
    let i := strokeSegment t x
    100 * (i : Int) - 800 + nearestDiv (100 * (x - strokeAt t i)) (strokeAt t (i + 1) - strokeAt t i)

/-! ### The exchange at a step (R141, R142) -/

/-- The outstanding DRIVE is unanswered: the step that finds it so counts a miss (R142). -/
def missed (d : DrivePort) : Bool :=
  match d.outstanding with
  | some x => !x.answered
  | none => false

/-- The drive port's counts at a miss; the third in a row is a silence (R142). -/
def countMiss (d : DrivePort) : DrivePort :=
  if d.missCount + 1 < 3 then { d with missCount := d.missCount + 1, misses := count16 d.misses }
  else { d with missCount := 0, misses := count16 d.misses, silences := count16 d.silences }

/-- The miss judgement of a step (R142): the mode controller is told of a miss, and asked for DRIVE_SILENT at
the third in a row. -/
def judgeMiss (s : State) : State :=
  if missed s.drive then
    let s1 := noteMiss { s with drive := countMiss s.drive }
    if s.drive.missCount + 1 < 3 then s1 else takeFault .driveSilent s1
  else s

/-- The DRIVE of a step: a MOVE of the command, or a QUERY (R141 step 1). -/
def buildDrive (s : State) (command : Option Int) : Drive where
  seq := s.drive.seq
  kind := match command with
    | some c => .move c (toStroke s.strokes s.drive.rounding c)
    | none => .query
  answered := false

/-- The drive port after it has sent a DRIVE (R141 steps 2 and 3). -/
def sentDrive (x : Drive) (d : DrivePort) : DrivePort :=
  { d with outstanding := some x, seq := d.seq + 1#8, sent := count16 d.sent }

/-- The drive port's part of a step (R141, R142), ending with the hand-over to the audit (R172). -/
def driveExchange (sum : StepSummary) (s : State) : State :=
  let s1 := judgeMiss s
  let x := buildDrive s1 sum.command
  auditHandover sum x { s1 with drive := sentDrive x s1.drive }

/-! ### The step (R97, R98) -/

/-- The expiry of the step timer: the clock stands at the expiry, the timer is restarted for one period from
it, and the step number rises (R97, R170). -/
def beginStep (s : State) : State :=
  let s1 := clockTo s.clock.stepDue s
  { s1 with
    clock := { s1.clock with stepDue := s1.clock.now + s1.params.stepMs * Config.ticksPerMs }
    audit := { s1.audit with stepNumber := s1.audit.stepNumber + 1#32 } }

/-- The reactive query of a step, on the state (R87, R98 step 3). -/
def stepReactive (pa : PositionAnswer) (s : State) : State × ReactiveAnswer :=
  let x := reactiveQuery pa.d pa.q s.params.strideDm s.queue
  ({ s with queue := x.1 }, x.2)

/-- The mode controller forms the step's command, which becomes the previous command (R116, R117). -/
def takeCommand (command : Option Int) (s : State) : State :=
  match command with
  | some c => { s with mode := { s.mode with prevCommand := some c } }
  | none => s

/-- Steps 4 and 5 of R98 on the answers of the three queries: the stages, the command, the summary, and the
exchange with the drive. -/
def concludeStep (pa : PositionAnswer) (ra : RouteAnswer) (re : ReactiveAnswer) (s : State) : State :=
  let g := stagesOf s.params s.mode.mode s.demand pa.v ra re
  let cmd := formCommand s.mode (pa.o * g.target) (rateStep s.params)
  let sum := summaryOf s.mode.mode pa ra g cmd.1 cmd.2
  let s1 := takeCommand cmd.1 (runStages g pa ra s)
  driveExchange sum { s1 with demand := { s1.demand with lastStep := some sum } }

/-- One step, as one action (R98). -/
def runStep (s : State) : State :=
  let s1 := beginStep s
  let pa := positionQuery s1
  let x := geometryQuery pa s1
  let y := stepReactive pa x.1
  concludeStep pa x.2 y.2 y.1

/-- STEP: expiry of the step timer (R97, R98). -/
def execStepExpiry (s : State) : Result := unlessHeld runStep s

/-! ### Acknowledgements (R143, R144) -/

/-- The outstanding DRIVE that an acknowledgement of a sequence answers (R143). -/
def answeredDrive (d : DrivePort) (seq : Byte) : Option Drive :=
  match d.outstanding with
  | some x => if x.answered = false ∧ x.seq = seq then some x else none
  | none => none

/-- The drive port's items after an acknowledgement of a DRIVE is taken (R144 steps 1 to 4). -/
def ackDrive (x : Drive) (raw stroke angle : Int) (status : AckStatus) (d : DrivePort) : DrivePort :=
  { d with
    outstanding := some { x with answered := true }
    missCount := 0
    acks := count16 d.acks
    clamps := if stroke = raw then d.clamps else count16 d.clamps
    lastStroke := some stroke
    lastAngle := some angle
    lastStatus := some status
    endStop := status == .endStop
    endStops := if status = .endStop then count16 d.endStops else d.endStops
    faults := if status = .fault then count16 d.faults else d.faults }

/-- An acknowledgement is taken (R144): the drive port's items, then the mode controller, then the audit. -/
def takeAnswer (x : Drive) (raw : Int) (status : AckStatus) (s : State) : State :=
  let stroke := clampTo 9999 raw
  let angle := toAngle s.strokes stroke
  auditAnswer x.seq stroke angle status
    (takeAck x.kind angle status { s with drive := ackDrive x raw stroke angle status s.drive })

/-- A DRIVE-ACK, taken or LATE (R143). -/
def receiveAck (seq : Byte) (stroke : Word16) (status : Byte) (s : State) : State :=
  match answeredDrive s.drive seq with
  | some x => takeAnswer x stroke.toInt (ackStatusOf status) s
  | none => { s with drive := { s.drive with late := count16 s.drive.late } }

/-- DRIVE_ACK (R143, R144). -/
def execDriveAck (seq : Byte) (stroke : Word16) (status : Byte) (s : State) : Result :=
  unlessHeld (receiveAck seq stroke status) s

/-! ### The stroke table (R150, R151) -/

/-- Every stroke lies in −9,999 .. +9,999 (R150 check 1). -/
def strokesInRange (t : List Int) : Bool := t.all fun x => decide (-9999 ≤ x) && decide (x ≤ 9999)

/-- The first index i for which S[i + 1] ≤ S[i] (R150 check 2). -/
def firstFall (t : List Int) : Option Nat :=
  (List.range 16).find? fun i => decide (strokeAt t (i + 1) ≤ strokeAt t i)

/-- STROKE LOAD: the mask, then the checks of R150 in order. Too few argument bytes are BAD_ARG before them, without an
index (DESIGN CHOICE, entry 26). -/
def takeStrokeLoad (r : Request) (s : State) : State × Answer :=
  let t := argStrokes r.args
  if s.line.masked.load then (s, answer .masked)
  else if r.args.length < 35 then (s, answer .badArg)
  else
    match roundingOfCode (arg8 r.args 34) with
    | none => (s, answer .badArg)
    | some m =>
      if !strokesInRange t then (s, answer .badArg)
      else
        match firstFall t with
        | some i => (s, answer .badArg (.index i))
        | none =>
          if 50 < (strokeAt t 8).natAbs then (s, answer .badArg (.index 8))
          else
            ({ s with strokes := t, drive := { s.drive with rounding := m, tableLoaded := true } }, answer .done)

/-- STROKE READ (R151). -/
def takeStrokeRead (_ : Request) (s : State) : State × Answer :=
  (s, answer .done (.strokes s.strokes s.drive.rounding s.drive.tableLoaded))

end Sys2Proof.Machine
end

