-- ==== Sys2Proof/Machine/Requests.lean ====
section
/-! DEFINITION. Parameters (R165), STATUS READ (R164), FEATURE MASK (R166), RESTART (R168), the catalogue of
requests (R161), and the meaning of every request command and of the frames that are only passed on. -/

namespace Sys2Proof.Machine

/-! ### Parameters (R2, R63, R77, R96, R120, R160, R165) -/

/-- The range of a parameter. -/
def paramRange : Param → Int × Int
  | .offsetA => (0, 4000)
  | .offsetB => (0, 4000)
  | .lagMs => (0, 1000)
  | .trimDm => (-100, 100)
  | .sensorLeadDm => (-200, 200)
  | .odoTimeout => (50, 1000)
  | .odoLostMs => (200, 5000)
  | .driftPermille => (0, 100)
  | .uMax => (1, 1000)
  | .tiltLimit => (0, 800)
  | .reducedLimit => (0, 800)
  | .strideDm => (5, 40)
  | .stepMs => (5, 20)
  | .compPct => (0, 100)
  | .wPred => (0, 100)
  | .disagreeCdeg => (20, 400)
  | .disagreeSteps => (1, 255)
  | .holdSteps => (0, 255)
  | .vMin => (0, 5000)
  | .rateMax => (100, 800)
  | .holdTol => (1, 50)
  | .floorA => (0, 3)
  | .floorB => (0, 3)

/-- A floor is a parameter of the line interface (R160). -/
def isFloor (x : Param) : Bool := x = .floorA || x = .floorB

/-- The value in force of a parameter. -/
def getParam (x : Param) (s : State) : Int :=
  match x with
  | .offsetA => s.params.offsetA
  | .offsetB => s.params.offsetB
  | .lagMs => s.params.lagMs
  | .trimDm => s.params.trimDm
  | .sensorLeadDm => s.params.sensorLeadDm
  | .odoTimeout => s.params.odoTimeout
  | .odoLostMs => s.params.odoLostMs
  | .driftPermille => s.params.driftPermille
  | .uMax => s.params.uMax
  | .tiltLimit => s.params.tiltLimit
  | .reducedLimit => s.params.reducedLimit
  | .strideDm => s.params.strideDm
  | .stepMs => s.params.stepMs
  | .compPct => s.params.compPct
  | .wPred => s.params.wPred
  | .disagreeCdeg => s.params.disagreeCdeg
  | .disagreeSteps => s.params.disagreeSteps
  | .holdSteps => s.params.holdSteps
  | .vMin => s.params.vMin
  | .rateMax => s.params.rateMax
  | .holdTol => s.params.holdTol
  | .floorA => s.line.floorA
  | .floorB => s.line.floorB

/-- A parameter of the parameter block set to a value in its range; a floor is not one. -/
def setIn (x : Param) (v : Int) (p : Params) : Params :=
  match x with
  | .offsetA => { p with offsetA := v.toNat }
  | .offsetB => { p with offsetB := v.toNat }
  | .lagMs => { p with lagMs := v.toNat }
  | .trimDm => { p with trimDm := v }
  | .sensorLeadDm => { p with sensorLeadDm := v }
  | .odoTimeout => { p with odoTimeout := v.toNat }
  | .odoLostMs => { p with odoLostMs := v.toNat }
  | .driftPermille => { p with driftPermille := v.toNat }
  | .uMax => { p with uMax := v.toNat }
  | .tiltLimit => { p with tiltLimit := v.toNat }
  | .reducedLimit => { p with reducedLimit := v.toNat }
  | .strideDm => { p with strideDm := v.toNat }
  | .stepMs => { p with stepMs := v.toNat }
  | .compPct => { p with compPct := v.toNat }
  | .wPred => { p with wPred := v.toNat }
  | .disagreeCdeg => { p with disagreeCdeg := v.toNat }
  | .disagreeSteps => { p with disagreeSteps := v.toNat }
  | .holdSteps => { p with holdSteps := v.toNat }
  | .vMin => { p with vMin := v.toNat }
  | .rateMax => { p with rateMax := v.toNat }
  | .holdTol => { p with holdTol := v.toNat }
  | .floorA => p
  | .floorB => p

/-- The state with a parameter set to a value in its range. -/
def setParam (x : Param) (v : Int) (s : State) : State :=
  match x with
  | .floorA => { s with line := { s.line with floorA := v.toNat } }
  | .floorB => { s with line := { s.line with floorB := v.toNat } }
  | _ => { s with params := setIn x v s.params }

/-- The clamp that keeps odo_timeout at most odo_lost_ms (R2). -/
def timingClamp (x : Param) (p : Params) (v : Int) : Int :=
  match x with
  | .odoTimeout => min v p.odoLostMs
  | .odoLostMs => max v p.odoTimeout
  | _ => v

/-- The value a PARAM SET applies: the range clamp, then the timing clamp (R2, R165). -/
def appliedValue (x : Param) (p : Params) (v : Int) : Int :=
  timingClamp x p (limitTo (paramRange x).1 (paramRange x).2 v)

/-- The owner of a parameter applies a value in its range. A value of odo_lost_ms moves the expiry of a running
watchdog, and an expiry moved to an instant that has already passed occurs at once, inside the PARAM SET (R13; the
present instant counts as passed: DEDUCED, entry 20). -/
def applyParam (x : Param) (v : Int) (s : State) : State :=
  let s1 := setParam x v s
  if x = .odoLostMs ∧ reached s1 (watchdogDue s1) then watchdogExpires s1 else s1

/-- PARAM SET (R165, R160). A floor at an effective level above 0 is answered LEVEL by the line interface, which
counts it (DEDUCED, entry 7), but too few argument bytes are BAD_ARG before that, and are not counted (DESIGN
CHOICE, entry 26). The frames of an expiry that occurs at once, inside the PARAM SET, join before the reply (R162;
DEDUCED, entry 20). -/
def takeParamSet (r : Request) (s : State) : State × Answer :=
  if r.args.length < 3 then (s, answer .badArg)
  else
    match paramOfCode (arg8 r.args 0) with
    | none => (s, answer .badArg)
    | some x =>
      if isFloor x ∧ 0 < r.level then
        ({ s with line := { s.line with levelRefusals := count16 s.line.levelRefusals } }, answer .level)
      else
        let v := argInt16 r.args 1
        let v' := appliedValue x s.params v
        (applyParam x v' s, if v' = v then answer .done else answer .clamped (.value v'))

/-- PARAM READ (R165). -/
def takeParamRead (r : Request) (s : State) : State × Answer :=
  if r.args.length < 1 then (s, answer .badArg)
  else
    match paramOfCode (arg8 r.args 0) with
    | none => (s, answer .badArg)
    | some x => (s, answer .done (.value (getParam x s)))

/-! ### STATUS READ (R164) -/

/-- A port on the LINE page (R164): of its transmitter only whether it is SENDING (DESIGN CHOICE, entry 24). -/
def portPage (p : PortState) : PortPage where
  forwarding := p.fwd.length
  own := p.own.length
  sending := p.sending.isSome
  streak := p.streak
  received := p.received
  checkErrors := p.checkErrors
  overrun := p.overrun
  ownDrop := p.ownDrop

/-- The LINE page (R164). -/
def linePage (l : LineInterface) : LinePage where
  upstream := l.upstream
  floorA := l.floorA
  floorB := l.floorB
  masked := l.masked
  portA := portPage l.portA
  portB := portPage l.portB
  reportTag := l.reportTag
  trailDrop := l.trailDrop
  requestsTaken := l.requestsTaken
  levelRefusals := l.levelRefusals

/-- The POSITION page, with the three flags evaluated now (R1). -/
def positionPage (s : State) : PositionPage where
  items := s.pos
  upstream := s.line.upstream
  stale := (positionQuery s).stale
  range := (positionQuery s).range
  uExceeds := (positionQuery s).uExceeds

/-- The WALKER page (R20, R63). -/
def walkerPage (s : State) : WalkerPage where
  active := s.walker.active
  cursor := s.walker.cursor
  nullCause := s.walker.nullCause
  lostAt := s.walker.lostAt
  losses := s.walker.losses
  look := s.look

/-- A bank on the STORE page (R41). -/
def bankPage (b : Bank) : BankPage where
  state := b.state
  count := b.count
  written := b.slots.length
  last := b.last

/-- The STORE page (R41). -/
def storePage (c : CurveStore) : StorePage where
  bank0 := bankPage c.bank0
  bank1 := bankPage c.bank1
  bank2 := bankPage c.bank2
  bank3 := bankPage c.bank3
  staged := c.staged.map fun x => (x.bank, x.group)
  interruptions := c.interruptions

/-- The QUEUE page (R76). -/
def queuePage (q : PreviewQueue) : QueuePage where
  items := { q with entries := [] }
  number := q.entries.length
  oldest := q.entries.head?
  newest := newest q

/-- The AUDIT page (R170): the record only while valid is set. -/
def auditPage (a : StepAudit) : AuditPage where
  armed := a.armed
  period := a.period
  counter := a.counter
  pending := a.pending
  record := if a.valid then a.record else none
  valid := a.valid
  stepNumber := a.stepNumber

/-- The page a page code names (R164, 11.2). -/
def statusPage (code : Nat) (s : State) : Option StatusPage :=
  match code with
  | 1 => some (.line (linePage s.line))
  | 2 => some (.position (positionPage s))
  | 3 => some (.walker (walkerPage s))
  | 4 => some (.store (storePage s.store))
  | 5 => some (.queue (queuePage s.queue))
  | 6 => some (.demand s.demand)
  | 7 => some (.mode s.mode s.holdReply.isSome)
  | 8 => some (.drive s.drive)
  | 9 => some (.audit (auditPage s.audit))
  | _ => none

/-- STATUS READ (R164); the counts shown already count this frame and this request (entry 6). -/
def takeStatusRead (r : Request) (s : State) : State × Answer :=
  if r.args.length < 1 then (s, answer .badArg)
  else
    match statusPage (arg8 r.args 0) s with
    | none => (s, answer .badArg)
    | some page => (s, answer .done (.status page s.mode.mode s.line.masked s.line.address))

/-! ### FEATURE MASK and RESTART (R166, R168) -/

/-- The instant effect of the features newly masked, given the set before and the set after (R166). -/
def maskEffects (before after : Features) (s : State) : State :=
  let s1 := if after.predictive && !before.predictive then maskPredictive s else s
  let s2 := if after.audit && !before.audit then maskAudit s1 else s1
  if after.load && !before.load then maskLoad s2 else s2

/-- FEATURE MASK (R166). -/
def takeFeatureMask (r : Request) (s : State) : State × Answer :=
  if r.args.length < 1 ∨ namesNoFeature (argByte r.args 0) then (s, answer .badArg)
  else
    let after := joinFeatures s.line.masked (featuresOf (argByte r.args 0))
    (maskEffects s.line.masked after { s with line := { s.line with masked := after } },
      answer .done (.capability after))

/-- The demand unit's items after RESTART (R95, R110). -/
def restartedDemand (d : DemandUnit) : DemandUnit :=
  { d with thetaB := 0, runCount := 0, latch := false, fadeCount := 0 }

/-- RESTART, on every block in one action (R168). -/
def restartBlocks (s : State) : State :=
  restartAudit (restartMode (restartStore
    { s with queue := flushQueue s.queue, demand := restartedDemand s.demand }))

/-- RESTART (R168). -/
def takeRestart (_ : Request) (s : State) : State × Answer := (restartBlocks s, answer .done)

/-! ### The catalogue (R161, 11.2) -/

def statusReadRow : RequestRow := { code := 1#8, required := 3, take := takeStatusRead }
def paramSetRow : RequestRow := { code := 2#8, required := 1, take := takeParamSet }
def paramReadRow : RequestRow := { code := 3#8, required := 3, take := takeParamRead }
def modeSetRow : RequestRow := { code := 4#8, required := 2, take := takeModeSet }
def descWriteRow : RequestRow := { code := 5#8, required := 1, take := takeDescWrite }
def descClearRow : RequestRow := { code := 6#8, required := 1, take := takeDescClear }
def descReadRow : RequestRow := { code := 7#8, required := 3, take := takeDescRead }
def loadHeadRow : RequestRow := { code := 8#8, required := 1, take := takeLoadHead }
def loadTailRow : RequestRow := { code := 9#8, required := 1, take := takeLoadTail }
def bankOpenRow : RequestRow := { code := 10#8, required := 1, take := takeBankOpen }
def bankCloseRow : RequestRow := { code := 11#8, required := 1, take := takeBankClose }
def bankEraseRow : RequestRow := { code := 12#8, required := 1, take := takeBankErase }
def recordReadRow : RequestRow := { code := 13#8, required := 3, take := takeRecordRead }
def strokeLoadRow : RequestRow := { code := 14#8, required := 0, take := takeStrokeLoad }
def strokeReadRow : RequestRow := { code := 15#8, required := 3, take := takeStrokeRead }
def sectionSelectRow : RequestRow := { code := 16#8, required := 1, take := takeSectionSelect }
def holdRow : RequestRow := { code := 17#8, required := 2, take := takeHold }
def releaseRow : RequestRow := { code := 18#8, required := 2, take := takeRelease }
def resumeRow : RequestRow := { code := 19#8, required := 2, take := takeResume }
def auditArmRow : RequestRow := { code := 20#8, required := 3, take := takeAuditArm }
def featureMaskRow : RequestRow := { code := 21#8, required := 0, take := takeFeatureMask }
def restartRow : RequestRow := { code := 22#8, required := 0, take := takeRestart }

/-- The catalogue of requests (R161). -/
def catalogue : List RequestRow :=
  [statusReadRow, paramSetRow, paramReadRow, modeSetRow, descWriteRow, descClearRow, descReadRow, loadHeadRow,
    loadTailRow, bankOpenRow, bankCloseRow, bankEraseRow, recordReadRow, strokeLoadRow, strokeReadRow,
    sectionSelectRow, holdRow, releaseRow, resumeRow, auditArmRow, featureMaskRow, restartRow]

/-- The taking of a request by its payload: by the catalogue row of its code, or UNKNOWN (R161). -/
def takePayload (port : Port) (h : Header) (payload : List Byte) (s : State) : State :=
  match payload with
  | [] => takeUnknown port h [] s
  | code :: args =>
    match catalogue.find? (fun row => row.code = code) with
    | some row => takeRequest row port h args s
    | none => takeUnknown port h (code :: args) s

/-! ### The meanings of the request commands -/

/-- STATUS_READ (R164). -/
def execStatusRead (port : Port) (h : Header) (args : List Byte) (s : State) : Result :=
  unlessHeld (receiveRow statusReadRow port h args) s

/-- PARAM_SET (R165). -/
def execParamSet (port : Port) (h : Header) (args : List Byte) (s : State) : Result :=
  unlessHeld (receiveRow paramSetRow port h args) s

/-- PARAM_READ (R165). -/
def execParamRead (port : Port) (h : Header) (args : List Byte) (s : State) : Result :=
  unlessHeld (receiveRow paramReadRow port h args) s

/-- MODE_SET (R124, R125). -/
def execModeSet (port : Port) (h : Header) (args : List Byte) (s : State) : Result :=
  unlessHeld (receiveRow modeSetRow port h args) s

/-- DESC_WRITE (R24 to R26). -/
def execDescWrite (port : Port) (h : Header) (args : List Byte) (s : State) : Result :=
  unlessHeld (receiveRow descWriteRow port h args) s

/-- DESC_CLEAR (R27). -/
def execDescClear (port : Port) (h : Header) (args : List Byte) (s : State) : Result :=
  unlessHeld (receiveRow descClearRow port h args) s

/-- DESC_READ (R28). -/
def execDescRead (port : Port) (h : Header) (args : List Byte) (s : State) : Result :=
  unlessHeld (receiveRow descReadRow port h args) s

/-- SECTION_SELECT (R29). -/
def execSectionSelect (port : Port) (h : Header) (args : List Byte) (s : State) : Result :=
  unlessHeld (receiveRow sectionSelectRow port h args) s

/-- LOAD_HEAD (R44 to R46, R48). -/
def execLoadHead (port : Port) (h : Header) (args : List Byte) (s : State) : Result :=
  unlessHeld (receiveRow loadHeadRow port h args) s

/-- LOAD_TAIL (R47, R48). -/
def execLoadTail (port : Port) (h : Header) (args : List Byte) (s : State) : Result :=
  unlessHeld (receiveRow loadTailRow port h args) s

/-- BANK_OPEN (R50, R51). -/
def execBankOpen (port : Port) (h : Header) (args : List Byte) (s : State) : Result :=
  unlessHeld (receiveRow bankOpenRow port h args) s

/-- BANK_CLOSE (R57). -/
def execBankClose (port : Port) (h : Header) (args : List Byte) (s : State) : Result :=
  unlessHeld (receiveRow bankCloseRow port h args) s

/-- BANK_ERASE (R58). -/
def execBankErase (port : Port) (h : Header) (args : List Byte) (s : State) : Result :=
  unlessHeld (receiveRow bankEraseRow port h args) s

/-- RECORD_READ (R59). -/
def execRecordRead (port : Port) (h : Header) (args : List Byte) (s : State) : Result :=
  unlessHeld (receiveRow recordReadRow port h args) s

/-- STROKE_LOAD (R150). -/
def execStrokeLoad (port : Port) (h : Header) (args : List Byte) (s : State) : Result :=
  unlessHeld (receiveRow strokeLoadRow port h args) s

/-- STROKE_READ (R151). -/
def execStrokeRead (port : Port) (h : Header) (args : List Byte) (s : State) : Result :=
  unlessHeld (receiveRow strokeReadRow port h args) s

/-- HOLD (R128). -/
def execHold (port : Port) (h : Header) (args : List Byte) (s : State) : Result :=
  unlessHeld (receiveRow holdRow port h args) s

/-- RELEASE (R130). -/
def execRelease (port : Port) (h : Header) (args : List Byte) (s : State) : Result :=
  unlessHeld (receiveRow releaseRow port h args) s

/-- RESUME (R134). -/
def execResume (port : Port) (h : Header) (args : List Byte) (s : State) : Result :=
  unlessHeld (receiveRow resumeRow port h args) s

/-- AUDIT_ARM (R171). -/
def execAuditArm (port : Port) (h : Header) (args : List Byte) (s : State) : Result :=
  unlessHeld (receiveRow auditArmRow port h args) s

/-- FEATURE_MASK (R166). -/
def execFeatureMask (port : Port) (h : Header) (args : List Byte) (s : State) : Result :=
  unlessHeld (receiveRow featureMaskRow port h args) s

/-- RESTART (R168). -/
def execRestart (port : Port) (h : Header) (args : List Byte) (s : State) : Result :=
  unlessHeld (receiveRow restartRow port h args) s

/-! ### Frames not of the catalogue, and the line's own events -/

/-- REQUEST_UNKNOWN (R161 stage 1). -/
def execRequestUnknown (port : Port) (h : Header) (payload : List Byte) (s : State) : Result :=
  unlessHeld (receiveRequest (takeUnknown port h payload) port h payload) s

/-- TRAIL_DROP: a REQUEST frame, whatever its code, as R155 and R167 handle it; under the mask it is dropped. -/
def execTrailDrop (port : Port) (h : Header) (payload : List Byte) (s : State) : Result :=
  unlessHeld (receiveRequest (takePayload port h payload) port h payload) s

/-- A good frame that is none of this node's is counted and passed on (R155). -/
def passFrame (port : Port) (h : Header) (kind : Byte) (payload : List Byte) (s : State) : State :=
  forward port h (.raw kind payload) (countReceived port s)

/-- FRAME_FORWARD: a good REPLY, REPORT or unknown kind is passed on, and a REQUEST handled by its
destination (R155, R156). -/
def execFrameForward (port : Port) (h : Header) (body : PassBody) (s : State) : Result :=
  match body with
  | .request payload => unlessHeld (receiveRequest (takePayload port h payload) port h payload) s
  | .other kind payload => unlessHeld (passFrame port h kind payload) s

/-- CHECK_ERROR: the frame is discarded and counted; nothing else of it is examined (R154). It stands for a frame
that began to arrive before the release of device reset as well (R176). -/
def execCheckError (port : Port) (_bytes : List Byte) (s : State) : Result :=
  unlessHeld (onPort port fun x => { x with checkErrors := count16 x.checkErrors }) s

/-- TRANSMISSION_COMPLETION (R158). -/
def execTransmissionCompletion (port : Port) (s : State) : Result := unlessHeld (onPort port endTransmission) s

/-- The node address the straps give: 1 .. 16, else none (R159). -/
def addressOf (straps : BitVec 5) : Option Byte :=
  if 1 ≤ straps.toNat ∧ straps.toNat ≤ 16 then some (BitVec.ofNat 8 straps.toNat) else none

/-- Every block at its value after device reset, the straps sampled, and the step timer's first period begun
at this instant (R176, R159, R95). The clock and the count of free values are the model's and run on. -/
def releaseReset (straps : BitVec 5) (s : State) : State :=
  { State.reset with
    clock := {
      now := s.clock.now, arrival := none
      stepDue := s.clock.now + State.reset.params.stepMs * Config.ticksPerMs }
    line := { State.reset.line with address := addressOf straps }
    freeCount := s.freeCount
    pending := s.pending }

/-- A low level on RESET_N, or power-on, holds the part (R176): transmissions end, queues are empty and no timer is
set. The spec gives the blocks' items no value before the release; they stand at those after device reset, as with
straps read as 0 (DESIGN CHOICE, entry 17). -/
def holdReset (s : State) : State := { releaseReset 0#5 s with held := true }

/-- DEVICE_RESET (R176). -/
def execDeviceReset (event : ResetEvent) (s : State) : Result :=
  match event with
  | .held => .next (holdReset s)
  | .released straps => .next (releaseReset straps s)

end Sys2Proof.Machine
end

