-- ==== Sys2Proof/Machine/Dispatch.lean ====
section
/-! DEFINITION. One arm per command: the meaning each row of the table has. -/

namespace Sys2Proof.Machine

def exec (i : Instr) (s : State) : Host.Outcome State Fault Refusal :=
  match i with
  | .deviceReset event => Sys2Proof.Machine.execDeviceReset event s
  | .odometry port h chainage speed direction rest => Sys2Proof.Machine.execOdometry port h chainage speed direction rest s
  | .odoLost => Sys2Proof.Machine.execOdoLost s
  | .fix port h beacon passage accuracy verdict rest => Sys2Proof.Machine.execFix port h beacon passage accuracy verdict rest s
  | .sample port h chainage accel flags seq rest => Sys2Proof.Machine.execSample port h chainage accel flags seq rest s
  | .sense accel flags => Sys2Proof.Machine.execSense accel flags s
  | .localFrameDiscard port bytes => Sys2Proof.Machine.execLocalFrameDiscard port bytes s
  | .driveAck seq stroke status => Sys2Proof.Machine.execDriveAck seq stroke status s
  | .stepExpiry => Sys2Proof.Machine.execStepExpiry s
  | .verifyCompletion => Sys2Proof.Machine.execVerifyCompletion s
  | .transmissionCompletion port => Sys2Proof.Machine.execTransmissionCompletion port s
  | .frameForward port h body => Sys2Proof.Machine.execFrameForward port h body s
  | .checkError port bytes => Sys2Proof.Machine.execCheckError port bytes s
  | .trailDrop port h payload => Sys2Proof.Machine.execTrailDrop port h payload s
  | .requestUnknown port h payload => Sys2Proof.Machine.execRequestUnknown port h payload s
  | .statusRead port h args => Sys2Proof.Machine.execStatusRead port h args s
  | .paramSet port h args => Sys2Proof.Machine.execParamSet port h args s
  | .paramRead port h args => Sys2Proof.Machine.execParamRead port h args s
  | .modeSet port h args => Sys2Proof.Machine.execModeSet port h args s
  | .descWrite port h args => Sys2Proof.Machine.execDescWrite port h args s
  | .descClear port h args => Sys2Proof.Machine.execDescClear port h args s
  | .descRead port h args => Sys2Proof.Machine.execDescRead port h args s
  | .sectionSelect port h args => Sys2Proof.Machine.execSectionSelect port h args s
  | .loadHead port h args => Sys2Proof.Machine.execLoadHead port h args s
  | .loadTail port h args => Sys2Proof.Machine.execLoadTail port h args s
  | .bankOpen port h args => Sys2Proof.Machine.execBankOpen port h args s
  | .bankClose port h args => Sys2Proof.Machine.execBankClose port h args s
  | .bankErase port h args => Sys2Proof.Machine.execBankErase port h args s
  | .recordRead port h args => Sys2Proof.Machine.execRecordRead port h args s
  | .strokeLoad port h args => Sys2Proof.Machine.execStrokeLoad port h args s
  | .strokeRead port h args => Sys2Proof.Machine.execStrokeRead port h args s
  | .hold port h args => Sys2Proof.Machine.execHold port h args s
  | .release port h args => Sys2Proof.Machine.execRelease port h args s
  | .resume port h args => Sys2Proof.Machine.execResume port h args s
  | .auditArm port h args => Sys2Proof.Machine.execAuditArm port h args s
  | .featureMask port h args => Sys2Proof.Machine.execFeatureMask port h args s
  | .restart port h args => Sys2Proof.Machine.execRestart port h args s

end Sys2Proof.Machine
end

