-- ==== Sys2Proof/Machine/Idle.lean ====
section
/-! DEFINITION. What the block does when no command waits: it takes a timer event that is due, or lets one tick of
its clock pass (DESIGN CHOICE, entry 1). -/

namespace Sys2Proof.Machine

/-- The timer events due: the step timer (R97), the watchdog (R13), the verification at its bound (R53). None is while
device reset holds the part (R176). -/
def dueEvents (s : State) : List Instr :=
  if s.held then []
  else (if reached s (some s.clock.stepDue) then [.stepExpiry] else [])
    ++ (if reached s (watchdogDue s) then [.odoLost] else [])
    ++ (if reached s (s.store.verifier.map Verification.dueBy) then [.verifyCompletion] else [])

/-- One tick of the clock passes. -/
def tick (s : State) : State := { s with clock := { s.clock with now := s.clock.now + 1 } }

/-- The block with no command waiting. Among several events due the choice is a free value (entry 1). -/
def idle (s : State) : Result :=
  match dueEvents s with
  | [] => .next (tick s)
  | [c] => exec c s
  | c :: cs =>
    exec ((c :: cs).getD (Config.eventChoice s.freeCount % (c :: cs).length) c) { s with freeCount := s.freeCount + 1 }

end Sys2Proof.Machine
end

