-- ==== Sys2Proof/Machine/Layout.lean ====
section
/-! DEFINITION. The bytes that leave the part: the line frame a transmitter sends and the DRIVE sent at a step, by
the layouts of 11.1 to 11.3. The payload of this node's replies and reports has a layout in the spec only in
part, so their bytes are not formed (entry 9). -/

namespace Sys2Proof.Machine

/-- The code of a result (11.2: numbered in the order of R161, DONE 0 to UNKNOWN 12). -/
def resultByte : ResultCode → Byte
  | .done => 0#8
  | .clamped => 1#8
  | .level => 2#8
  | .badArg => 3#8
  | .busy => 4#8
  | .inUse => 5#8
  | .absent => 6#8
  | .bankClosed => 7#8
  | .pendingLoad => 8#8
  | .masked => 9#8
  | .modeRefused => 10#8
  | .notCleared => 11#8
  | .unknown => 12#8

/-- The code of a report kind (11.2). -/
def reportKindByte : Report → Byte
  | .mode _ => 1#8
  | .fault _ => 2#8
  | .bank _ _ => 3#8
  | .disagree _ => 4#8
  | .audit _ => 5#8

/-- The code of a mode (11.2). -/
def modeByte : Mode → Byte
  | .off => 0#8
  | .centring => 1#8
  | .reactive => 2#8
  | .predictive => 3#8
  | .hold => 4#8
  | .fault => 5#8

/-- The kind code of a frame (11.1). -/
def bodyKind : Body → Byte
  | .odometry _ _ _ _ => 1#8
  | .fix _ _ _ _ _ => 2#8
  | .sample _ _ _ _ _ => 3#8
  | .request _ => 4#8
  | .raw kind _ => kind
  | .reply _ _ _ => 5#8
  | .report _ => 6#8

/-- The first payload bytes of a reply or report: request code and result code, or report kind (11.2). -/
def bodyPrefix : Body → List Byte
  | .reply code result _ => [code, resultByte result]
  | .report r => [reportKindByte r]
  | _ => []

/-- The payload bytes of a frame whose layout the spec gives whole (11.2). -/
def bodyPayload : Body → Option (List Byte)
  | .odometry c v d rest => some (odometryPayload c v d rest)
  | .fix b p acc verdict rest => some (fixPayload b p acc verdict rest)
  | .sample c a f q rest => some (samplePayload c a f q rest)
  | .request payload => some payload
  | .raw _ payload => some payload
  | .reply code result .empty => some [code, resultByte result]
  | .reply _ _ _ => none
  | .report _ => none

/-- The bytes of a line frame as it leaves, its check sequence formed afresh (R154, 11.1). -/
def frameBytes (f : Frame) : Option (List Byte) := (bodyPayload f.body).map (lineBytes (bodyKind f.body) f.h)

/-- The bytes of a DRIVE frame (11.3). -/
def driveBytes (x : Drive) : List Byte :=
  match x.kind with
  | .move _ stroke => moveBytes x.seq (BitVec.ofInt 16 stroke)
  | .query => queryBytes x.seq

end Sys2Proof.Machine
end

