-- ==== Sys2Proof/Safety.lean ====
section
/-! DEFINITION. The laws the spec states of the part at every instant, as predicates on a state, and the terms in
which statements speak of requests. -/

namespace Sys2Proof.Safety

open Sys2Proof.Machine

/-! ### Laws of a state -/

/-- The addressed stores are in canonical form, and a staged burst names a group 0 .. 63 (R41, R44, R20). -/
def StoresCanonical (s : State) : Prop :=
  Memory.wf s = true ∧ ∀ x, s.store.staged = some x → x.group ≤ 63

/-- A line port obeys R157 and R158: its queues hold at most 16 and 8 frames, the streak is at most 4, and an IDLE
transmitter leaves no frame waiting. -/
def PortLaw (p : PortState) : Prop :=
  p.fwd.length ≤ 16 ∧ p.own.length ≤ 8 ∧ p.streak ≤ 4 ∧ (p.sending = none → p.fwd = [] ∧ p.own = [])

/-- Both line ports obey R157 and R158. -/
def LineLaw (s : State) : Prop := PortLaw s.line.portA ∧ PortLaw s.line.portB

/-- A section kind may be active (R38): it is not INVALID, and a CURVE LIST names a bank in state OPEN whose
record count is at least first record + record count. -/
def KindUsable (c : CurveStore) : SectionKind → Prop
  | .invalid => False
  | .curveList b first count => (bankOf c b).state = .opened ∧ first + count ≤ (bankOf c b).count
  | _ => True

/-- The law of R38. -/
def ActiveSectionLaw (s : State) : Prop :=
  s.walker.active ≠ 0 → ∃ d, slotGet s.walker.descs s.walker.active = some d ∧ KindUsable s.store d.kind

/-- The state of the banks and the verifier agree (R41): the verifier is busy with a bank exactly while that bank
is OPENING. -/
def VerifierLaw (c : CurveStore) : Prop :=
  ∀ b, (bankOf c b).state = .opening ↔ ∃ x, c.verifier = some x ∧ x.bank = b

/-- The bank of a staged burst is CLOSED (R46). -/
def StagedLaw (c : CurveStore) : Prop := ∀ x, c.staged = some x → (bankOf c x.bank).state = .closed

/-- The entries' chainages strictly increase in the direction of travel from oldest to newest (R78). -/
def Increasing (d : Int) (l : List PreviewEntry) : Prop :=
  l.Pairwise fun x y => 0 < d * ((y.chainage : Int) - x.chainage)

/-- The law of R78, with what keeps it: a node without upstream port is not lead and has no entries (R10, R82). -/
def QueueLaw (s : State) : Prop :=
  s.queue.entries.length ≤ 512 ∧ Increasing (dirFactor s.pos.dir) s.queue.entries
    ∧ (∀ e ∈ s.queue.entries, e.chainage ≤ Config.maxChainage ∧ -5000 ≤ e.accel ∧ e.accel ≤ 5000)
    ∧ (-5000 ≤ s.queue.senseAccel ∧ s.queue.senseAccel ≤ 5000)
    ∧ (s.line.upstream = none → s.pos.lead = false ∧ s.queue.entries = [])

/-- A chosen mode the state admits (R124): a tilting one only with the upstream port known, PREDICTIVE only
unmasked. -/
def Admits (s : State) (t : ChosenMode) : Prop :=
  (t ≠ .off → s.line.upstream ≠ none) ∧ (t = .predictive → s.line.masked.predictive = false)

/-- The law of R124 on the mode and on every held mode, and the law of R128. -/
def ModeLaw (s : State) : Prop :=
  (s.mode.mode = .reactive → Admits s .reactive) ∧ (s.mode.mode = .predictive → Admits s .predictive)
    ∧ (s.mode.mode = .centring → Admits s s.mode.target)
    ∧ (s.mode.mode = .hold → ∃ t, s.mode.holdReturn = some t ∧ Admits s t)
    ∧ Admits s s.mode.saved ∧ (s.mode.mode = .hold → s.mode.holdFlag = true)

/-- The conditions of R147 on the stroke table. -/
def StrokeLaw (t : List Int) : Prop :=
  t.length = 17 ∧ (∀ x ∈ t, -9999 ≤ x ∧ x ≤ 9999) ∧ t.Pairwise (· < ·) ∧ (strokeAt t 8).natAbs ≤ 50

/-- An angle of a command: within ±800 cdeg (R116). -/
def CommandAngle (c : Int) : Prop := -800 ≤ c ∧ c ≤ 800

/-- Every command within ±800 (R116), with what keeps it: the stroke table's law and the range of tilt_limit. -/
def CommandLaw (s : State) : Prop :=
  StrokeLaw s.strokes ∧ s.params.tiltLimit ≤ 800 ∧ ∀ c, s.mode.prevCommand = some c → CommandAngle c

/-- Every parameter lies in its range, and odo_timeout never exceeds odo_lost_ms (R2, R63, R77, R96, R120, R160). -/
def ParamLaw (s : State) : Prop :=
  (∀ x, (paramRange x).1 ≤ getParam x s ∧ getParam x s ≤ (paramRange x).2)
    ∧ s.params.odoTimeout ≤ s.params.odoLostMs

/-- A pending tag has its record, PENDING, of the same DRIVE, and is not valid; a valid record is there (R172,
R173). -/
def AuditLaw (s : State) : Prop :=
  (∀ t, s.audit.pending = some t → s.audit.valid = false
    ∧ ∃ r, s.audit.record = some r ∧ r.completion = .pending ∧ r.seq = t.seq ∧ r.isMove = t.isMove)
    ∧ (s.audit.valid = true → s.audit.record ≠ none)

/-! ### Frames -/

/-- One bit of the check sequence, on a register below 65,536: the register moves up by one bit, and the lower terms of
the generator x¹⁶ + x¹² + x⁵ + 1 are added when the bit moved out differs from the bit taken in (R175). -/
def checkStep (r bit : Nat) : Nat :=
  if r / 2 ^ 15 = bit then 2 * r % 2 ^ 16 else (2 * r % 2 ^ 16) ^^^ (2 ^ 12 + 2 ^ 5 + 1)

/-- The check value over bytes: the register starts at 65,535 and takes each byte most significant bit first (R175). -/
def checkValue (bytes : List Byte) : Nat :=
  (bytes.flatMap fun b => [7, 6, 5, 4, 3, 2, 1, 0].map fun i => b.toNat / 2 ^ i % 2).foldl checkStep 65535

/-- A string of bytes is a body followed by its check sequence, high byte first (R175). -/
def Checked (body bytes : List Byte) : Prop :=
  ∃ hi lo : Byte, bytes = body ++ [hi, lo] ∧ checkValue body = hi.toNat * 256 + lo.toNat

/-! ### Reports -/

/-- A report under a tag stands in t where R163 puts it: at each port it goes to, t is sending it or holds it in its
own-frame queue, or dropped and counted an own frame since s (R157). -/
def ReportPlaced (s t : State) (tag : Word16) (r : Report) : Prop :=
  let frame : Frame := {
    h := { dest := 0#8, source := t.line.address.getD 0#8, level := 0#8, tag := tag, hop := 0#8 }, body := .report r }
  ∀ p, t.line.upstream = none ∨ t.line.upstream = some p →
    let before := portOf s.line p
    let now := portOf t.line p
    now.sending = some frame ∨ frame ∈ now.own ∨ before.ownDrop < now.ownDrop ∨ 65535 ≤ now.ownDrop

/-! ### The walk -/

/-- The high end of a section (R22). -/
def highEnd (d : Descriptor) : Nat :=
  d.base + (match d.granularity with | .fine => d.lengthField + 1 | .coarse => (d.lengthField + 1) * 64) - 1

/-- A point lies inside a section (R22). -/
abbrev Inside (d : Descriptor) (p : Nat) : Prop := d.base ≤ p ∧ p ≤ highEnd d

/-- A point lies beyond a section in the direction of travel (R22). -/
abbrev Beyond (d : Descriptor) (dir : Int) (p : Nat) : Prop := if 0 < dir then highEnd d < p else p < d.base

/-- A point lies behind a section in the direction of travel (R22). -/
abbrev Behind (d : Descriptor) (dir : Int) (p : Nat) : Prop := if 0 < dir then p < d.base else highEnd d < p

/-- The selectors a walk forward stands in after 0, 1, 2, … links from the active section; 0 past an end (R23, R33). -/
def pathAhead (w : Walker) (dir : Int) : Nat → Nat
  | 0 => w.active
  | n + 1 =>
    match slotGet w.descs (pathAhead w dir n) with
    | some d => if 0 < dir then d.nextUp else d.nextDown
    | none => 0

/-- The entry checks of R35 fail on a selector, with the cause of the first that does. -/
def EntryFails (w : Walker) (c : CurveStore) (sel : Nat) (cause : EntryCause) : Prop :=
  match slotGet w.descs sel with
  | none => cause = .sectionAbsent
  | some d =>
    match d.kind with
    | .invalid => cause = .sectionType
    | .curveList b first count =>
      if (bankOf c b).state = .opened then (bankOf c b).count < first + count ∧ cause = .sectionRange
      else cause = .bankNotOpen
    | _ => False

/-- A selector names a section that passes the entry checks of R35. -/
def Enters (w : Walker) (c : CurveStore) (sel : Nat) (d : Descriptor) : Prop :=
  slotGet w.descs sel = some d ∧ KindUsable c d.kind

/-! ### The restriction search -/

/-- A section's restriction of a value, at a source, holds from chainage a to b: its own over its extent, or the limit
of one of its records over the record's chainages (R71). -/
def Restricts (c : CurveStore) (sel : Nat) (d : Descriptor) (x : RestrictionSource) (value a b : Nat) : Prop :=
  x.selector = sel ∧
    match d.kind, x.record with
    | .noTilt, none => value = 0 ∧ a = d.base ∧ b = highEnd d
    | .reduced limit, none => value = limit ∧ a = d.base ∧ b = highEnd d
    | .curveList bank first count, some i => first ≤ i ∧ i < first + count ∧ ∃ r,
        slotGet (bankOf c bank).slots i = some r ∧ (if r.noTilt then value = 0 else r.limit = some value)
          ∧ r.start < r.start + r.entry + r.body + r.exit ∧ a = r.start
          ∧ b = r.start + r.entry + r.body + r.exit - 1
    | _, _ => False

/-- A section contributes a value at a source to the search between the car chainage and r: some chainage where it holds
lies inside the section's extent and the search range. Its distance is that from the car chainage, in the direction of
travel, to the first chainage within the search range at which it holds (R71). -/
def Contributes (c : CurveStore) (sel : Nat) (d : Descriptor) (dir : Int) (car r : Nat) (x : RestrictionSource)
    (value distance : Nat) : Prop :=
  ∃ a b, Restricts c sel d x value a b
    ∧ (∃ y, a ≤ y ∧ y ≤ b ∧ Inside d y ∧ min car r ≤ y ∧ y ≤ max car r)
    ∧ distance = if 0 < dir then max a (min car r) - car else car - min b (max car r)

/-! ### Requests -/

/-- The required level of each request code (R161, 11.2); none for a code outside the catalogue. -/
def requiredLevel (code : Byte) : Option Nat :=
  match code.toNat with
  | 1 => some 3
  | 2 => some 1
  | 3 => some 3
  | 4 => some 2
  | 5 => some 1
  | 6 => some 1
  | 7 => some 3
  | 8 => some 1
  | 9 => some 1
  | 10 => some 1
  | 11 => some 1
  | 12 => some 1
  | 13 => some 3
  | 14 => some 0
  | 15 => some 3
  | 16 => some 1
  | 17 => some 2
  | 18 => some 2
  | 19 => some 2
  | 20 => some 3
  | 21 => some 0
  | 22 => some 0
  | _ => none

/-- A request frame reaches its owner (R155, R161, R167, R176): the part is not held in device reset, the frame is not
dropped, it is meant for this node, and its effective level covers the required one. -/
def Admitted (s : State) (port : Port) (h : Header) (required : Nat) : Prop :=
  s.held = false ∧ trailMasked s port = false ∧ takesRequest s h.dest = true ∧ effectiveLevel s port h ≤ required

/-- The state with a good frame and a request taken counted (R154, R161). -/
def requestCounted (port : Port) (s : State) : State :=
  { countReceived port s with
    line := { (countReceived port s).line with
      requestsTaken := count16 (countReceived port s).line.requestsTaken } }

/-- A broadcast request is forwarded after it is taken; one addressed to this node is not (R155). -/
def passBroadcast (port : Port) (h : Header) (payload : List Byte) (s : State) : State :=
  if s.line.address = some h.dest then s else forward port h (.request payload) s

/-- The mode controller takes new items with a change of mode, which is reported (R123). -/
def modeChanged (reason : ModeReason) (m : ModeController) (s : State) : State :=
  sendReport (modeReport s.mode.mode reason m) { s with mode := m }

/-- The end of a request: its reply is placed (R162), and then a broadcast is forwarded (R155; DEDUCED, entry 10). -/
def concludeRequest (port : Port) (h : Header) (code : Byte) (args : List Byte) (result : ResultCode)
    (payload : ReplyPayload) (s : State) : State :=
  passBroadcast port h (code :: args) (sendReply port h.source h.tag code result payload s)

/-! ### Loads -/

/-- The store after an open asked for a CLOSED bank without a staged burst, and the open result: verification begins,
or the open is refused for its count or for another bank that is OPENING (R48, R50, R51). -/
def openJudged (asked : Bool) (b : Fin 4) (n now : Nat) (c : CurveStore) : CurveStore × OpenResult :=
  if asked = false then (c, .notAsked)
  else if n < 1 ∨ 512 < n then (c, .badArg)
  else if ∃ b', (bankOf c b').state = .opening then (c, .busy)
  else
    ({ setBank c b { bankOf c b with state := .opening } with
        verifier := some {
          bank := b, expected := n, nextIndex := 0
          dueBy := now + examined (bankOf c b).slots n * Config.ticksPerRecord } },
      .done)

/-- A record position as a slot stores it (R40). -/
def recordAsCarried (c : CarriedRecord) : CurveRecord where
  start := c.start.toNat
  entry := c.entry.toNat % 2 ^ 12
  body := c.body.toNat
  exit := c.exit.toNat % 2 ^ 12
  kappa := c.kappa.toInt
  cant := c.cant.toInt
  noTilt := c.noTilt
  comp := if c.hasComp then some (if 100 < c.comp.toNat then 100 else c.comp.toNat) else none
  limit := if c.hasLimit then some (if 800 < c.limit.toNat then 800 else c.limit.toNat) else none

/-- DONE, or CLAMPED when a present position carries a value that R40 stores lower. -/
def burstResult (ps : List (Option CarriedRecord)) : ResultCode :=
  if ps.any fun p => p.any fun c => c.hasComp && decide (100 < c.comp.toNat) || c.hasLimit && decide (800 < c.limit.toNat)
  then .clamped
  else .done

/-- What a CLAMPED load reply carries of position k (R161), where R40 stores a value of it lower than carried: 100 for
the compensation percentage and 800 for the limit, each where it is that value (the form: DESIGN CHOICE, entry 23). -/
def positionApplied (k : Nat) (c : CarriedRecord) : Option AppliedValues :=
  let comp := c.hasComp && decide (100 < c.comp.toNat)
  let limit := c.hasLimit && decide (800 < c.limit.toNat)
  if comp || limit then
    some { position := k, comp := if comp then some 100 else none, limit := if limit then some 800 else none }
  else none

/-- What a CLAMPED load reply carries of a burst, position by position; nothing unless the result is CLAMPED (R161). -/
def burstApplied (ps : List (Option CarriedRecord)) : List AppliedValues :=
  ps.zipIdx.filterMap fun x => x.1.bind (positionApplied x.2)

/-- What a burst leaves in a bank's slots: position k, when present, stored in its slot, and every slot that no
present position names as it was (R40, R45, R47). -/
def BurstPlaced (slotOf : Nat → Nat) (ps : List (Option CarriedRecord)) (before after : List (Nat × CurveRecord)) :
    Prop :=
  (∀ (k : Nat) (c : CarriedRecord), ps[k]? = some (some c) → slotGet after (slotOf k) = some (recordAsCarried c))
    ∧ ∀ i, (∀ (k : Nat) (c : CarriedRecord), ps[k]? = some (some c) → i ≠ slotOf k) →
        slotGet after i = slotGet before i

end Sys2Proof.Safety
end

