-- ==== Sys2Proof/Certificates/Slice0/Obligations.lean ====
section
/-! DEFINITION. The statements for the provers, from the numbered rules of the spec. -/

open Sys2Proof Sys2Proof.Machine Sys2Proof.Safety

/-! ### The block and its queue of commands -/

/-- One step runs the command at the front of the queue with the queue's rest. -/
def Obligations.StepRunsFrontCommand : Prop :=
  ∀ (c : Instr) (rest : List Instr) (s : State), step { s with pending := c :: rest } = exec c { s with pending := rest }

/-- No command stops the part, and none touches the queue of waiting commands. That DEVICE_RESET leaves that queue,
which is the model's own, alone is the model's choice (log entry 17). -/
def Obligations.EveryCommandCompletes : Prop :=
  ∀ (c : Instr) (s : State), ∃ t, exec c s = .next t ∧ t.pending = s.pending

/-- The model's choice (log entry 1): on an empty queue one tick of the clock passes when no timer event is due;
a single due event is taken; among several one of them is. The due events are those of R97, R13 and R53, and none
while the part is held in device reset (R176). -/
def Obligations.EmptyQueueIdles : Prop :=
  ∀ s : State,
    (.stepExpiry ∈ dueEvents s ↔ s.held = false ∧ s.clock.stepDue ≤ s.clock.now)
    ∧ (.odoLost ∈ dueEvents s ↔ s.held = false ∧ s.pos.watchdog = .running
        ∧ ∃ a, s.clock.arrival = some a ∧ a + s.params.odoLostMs * 2000 ≤ s.clock.now)
    ∧ (.verifyCompletion ∈ dueEvents s ↔ s.held = false ∧ ∃ x, s.store.verifier = some x ∧ x.dueBy ≤ s.clock.now)
    ∧ (∀ c ∈ dueEvents s, c = .stepExpiry ∨ c = .odoLost ∨ c = .verifyCompletion)
    ∧ (s.pending = [] → dueEvents s = [] →
        step s = .next { s with clock := { s.clock with now := s.clock.now + 1 } })
    ∧ (∀ c, s.pending = [] → dueEvents s = [c] → step s = exec c s)
    ∧ (s.pending = [] → 2 ≤ (dueEvents s).length →
        ∃ c ∈ dueEvents s, step s = exec c { s with freeCount := s.freeCount + 1 })

/-- Every frame decodes to the command it stands for. A REQUEST frame decodes by its request code, so the two
rows that stand for any REQUEST frame decode to the command of that code. -/
def Obligations.FramesDecode : Prop :=
  ∀ c : Instr, wellFormed c = true → encode c ≠ .event →
    decodeArrival (encode c) = some
      (match c with
        | .frameForward port h (.request payload) => decodeRequest port h payload
        | .trailDrop port h payload => decodeRequest port h payload
        | c => c)

/-- What makes a frame good, and what becomes of a bad one. A line frame is good exactly when none of the four cases of
R175 holds: its last two bytes are the check sequence of those before, there are 10 + L of them, L is at most 96, and an
ODOMETRY, FIX or SAMPLE frame has at least its payload size. A good SENSE frame is six bytes of kind 1, a good DRIVE-ACK
seven of kind 4, each with its check. A bad frame on a local port decodes to LOCAL_FRAME_DISCARD and changes nothing; a
bad line frame decodes to CHECK_ERROR, whatever else it holds, and is counted. A frame that began to arrive before the
release of device reset decodes to these whatever its bytes. -/
def Obligations.BadFramesDiscarded : Prop :=
  ∀ (port : Port) (bytes : List Byte) (s : State),
    (lineFrameGood bytes = true ↔ ∃ (kind dest source level tagHigh tagLow hop l : Byte) (payload : List Byte),
      Checked ([kind, dest, source, level, tagHigh, tagLow, hop, l] ++ payload) bytes
        ∧ bytes.length = 10 + l.toNat ∧ l.toNat ≤ 96
        ∧ (kind = 1#8 → 6 ≤ l.toNat) ∧ (kind = 2#8 → 8 ≤ l.toNat) ∧ (kind = 3#8 → 7 ≤ l.toNat))
    ∧ (senseFrameGood bytes = true ↔ ∃ rest, rest.length = 3 ∧ Checked (1#8 :: rest) bytes)
    ∧ (ackFrameGood bytes = true ↔ ∃ rest, rest.length = 4 ∧ Checked (4#8 :: rest) bytes)
    ∧ (senseFrameGood bytes = false → decodeSensor bytes = .localFrameDiscard .sensor bytes)
    ∧ (ackFrameGood bytes = false → decodeDrive bytes = .localFrameDiscard .drive bytes)
    ∧ (lineFrameGood bytes = false → decodeLine port bytes = .checkError port bytes)
    ∧ (∀ p, exec (.localFrameDiscard p bytes) s = .next s)
    ∧ decodeArrival (.lineCut port bytes) = some (.checkError port bytes)
    ∧ (∀ p, decodeArrival (.localCut p bytes) = some (.localFrameDiscard p bytes))
    ∧ (s.held = false → exec (.checkError port bytes) s = .next
        (onPort port (fun x => { x with checkErrors := min 65535 (x.checkErrors + 1) }) s))

/-! ### Reset -/

/-- Every law of the part holds after device reset. -/
def Obligations.ResetLawful : Prop :=
  StoresCanonical State.reset ∧ LineLaw State.reset ∧ ActiveSectionLaw State.reset ∧ VerifierLaw State.reset.store
    ∧ StagedLaw State.reset.store ∧ QueueLaw State.reset ∧ ModeLaw State.reset ∧ CommandLaw State.reset
    ∧ ParamLaw State.reset ∧ AuditLaw State.reset

/-- The release of device reset gives every block its value after device reset and samples the straps, whatever the
state before; the step timer's first expiry falls step_ms later. Before it, while the part is held, no frame is sent and
no other command and no timer does anything. The model's choices (log entry 17): that the queues are empty and no DRIVE
is outstanding while the part is held, that a release is a whole reset also when no hold came before it, and that the
clock, the queue of commands and the count of free values, which are the model's own, run on. -/
def Obligations.DeviceResetValues : Prop :=
  ∀ (straps : BitVec 5) (s : State),
    exec (.deviceReset (.released straps)) s = .next
      { clock := { now := s.clock.now, arrival := none, stepDue := s.clock.now + 10 * 2000 }
        line := {
          upstream := none
          address := if 1 ≤ straps.toNat ∧ straps.toNat ≤ 16 then some (BitVec.ofNat 8 straps.toNat) else none
          floorA := 0, floorB := 0
          masked := { predictive := false, audit := false, load := false, trailRequests := false }
          portA := {
            fwd := [], own := [], sending := none, streak := 0, received := 0, checkErrors := 0, overrun := 0
            ownDrop := 0 }
          portB := {
            fwd := [], own := [], sending := none, streak := 0, received := 0, checkErrors := 0, overrun := 0
            ownDrop := 0 }
          reportTag := 0#16, trailDrop := 0, requestsTaken := 0, levelRefusals := 0 }
        pos := {
          t0 := 0, v := 0, dir := .up, seen := false, watchdog := .idle, fixOffset := 0, uFix := 65535, sinceFix := 0
          u := 65535, rejections := 0, lead := false, fixesApplied := 0, unmarkedIgnored := 0, reverseIgnored := 0 }
        params := {
          offsetA := 0, offsetB := 0, lagMs := 300, trimDm := 0, sensorLeadDm := 0, odoTimeout := 200
          odoLostMs := 1000, driftPermille := 10, uMax := 20, tiltLimit := 800, reducedLimit := 200, strideDm := 10
          stepMs := 10, compPct := 60, wPred := 75, disagreeCdeg := 150, disagreeSteps := 20, holdSteps := 50
          vMin := 1111, rateMax := 400, holdTol := 10 }
        walker := {
          descs := [], active := 0, cursor := .unplaced, lastPoint := none, lastDir := none, nullCause := .reset
          lostAt := 0, losses := 0 }
        look := { outcome := .unknown .position, lowest := none, source := none, lEff := 200, failures := 0 }
        store := {
          bank0 := { slots := [], state := .closed, count := 0, last := .none }
          bank1 := { slots := [], state := .closed, count := 0, last := .none }
          bank2 := { slots := [], state := .closed, count := 0, last := .none }
          bank3 := { slots := [], state := .closed, count := 0, last := .none }
          staged := none, verifier := none, interruptions := 0 }
        queue := {
          entries := [], lastOriginated := none, nextSeq := 0#8, senseAccel := 0, senseValid := false, senseClamps := 0
          originated := 0, appended := 0, replacements := 0, stale := 0, overruns := 0, seqGaps := 0, ignored := 0
          flushes := 0, shiftLosses := 0, gapAnswers := 0, invalidAnswers := 0 }
        demand := { thetaB := 0, runCount := 0, latch := false, fadeCount := 0, latchSettings := 0, lastStep := none }
        mode := {
          mode := .centring, target := .off, holdFlag := false, holdReturn := none, settle := 0, firstCause := none
          further := 0, saved := .off, faultsTaken := 0, prevCommand := none, ackSeen := false, odoSinceFault := false
          ackStatus := none, odoSpeed := 0 }
        holdReply := none
        drive := {
          rounding := .nearest, tableLoaded := false, seq := 0#8, outstanding := none, missCount := 0
          lastStroke := none, lastAngle := none, lastStatus := none, endStop := false, sent := 0, acks := 0, late := 0
          misses := 0, silences := 0, endStops := 0, faults := 0, clamps := 0 }
        strokes := (List.range 17).map fun i => ((i : Int) - 8) * 110
        audit := {
          armed := false, period := none, counter := 0, pending := none, record := none, valid := false
          stepNumber := 0#32 }
        held := false
        freeCount := s.freeCount
        pending := s.pending }
    ∧ (∃ t, exec (.deviceReset .held) s = .next t ∧ t.held = true ∧ t.drive.outstanding = none
      ∧ (∀ p, (portOf t.line p).sending = none ∧ (portOf t.line p).fwd = [] ∧ (portOf t.line p).own = [])
      ∧ t.clock.now = s.clock.now ∧ t.freeCount = s.freeCount ∧ t.pending = s.pending)
    ∧ (s.held = true → dueEvents s = [] ∧ ∀ c : Instr, (∀ e, c ≠ .deviceReset e) → exec c s = .next s)

/-! ### Laws that every step keeps -/

/-- The addressed stores stay in canonical form. -/
def Obligations.StepKeepsStores : Prop :=
  ∀ s t : State, StoresCanonical s → step s = .next t → StoresCanonical t

/-- The queues of both ports keep their bounds, the streak stays at most 4, and an IDLE transmitter leaves no frame
waiting. -/
def Obligations.StepKeepsLineLaw : Prop :=
  ∀ s t : State, LineLaw s → step s = .next t → LineLaw t

/-- A non-null active selector always names a usable section, the verifier is busy with a bank exactly while that bank
is OPENING, and the bank of a staged burst is CLOSED. -/
def Obligations.StepKeepsActiveSection : Prop :=
  ∀ s t : State, ActiveSectionLaw s → VerifierLaw s.store → StagedLaw s.store → step s = .next t →
    ActiveSectionLaw t ∧ VerifierLaw t.store ∧ StagedLaw t.store

/-- The preview queue keeps its law. -/
def Obligations.StepKeepsQueueLaw : Prop :=
  ∀ s t : State, QueueLaw s → step s = .next t → QueueLaw t

/-- The mode is REACTIVE or PREDICTIVE only while the upstream port is known, PREDICTIVE only while unmasked, and
HOLD only while the hold flag is set. -/
def Obligations.StepKeepsModeLaw : Prop :=
  ∀ s t : State, ModeLaw s → step s = .next t → ModeLaw t

/-- Every command lies within ±800 cdeg, and the stroke table always satisfies its conditions. -/
def Obligations.StepKeepsCommandLaw : Prop :=
  ∀ s t : State, CommandLaw s → step s = .next t → CommandLaw t

/-- Every parameter stays in its range, and odo_timeout never exceeds odo_lost_ms. -/
def Obligations.StepKeepsParamLaw : Prop :=
  ∀ s t : State, ParamLaw s → step s = .next t → ParamLaw t

/-- A pending tag keeps its PENDING record and is never valid, and a valid record is there. -/
def Obligations.StepKeepsAuditLaw : Prop :=
  ∀ s t : State, AuditLaw s → step s = .next t → AuditLaw t

/-! ### Rules of the whole part -/

/-- Only device reset makes the upstream port unknown again, changes the node address, or unmasks a feature. -/
def Obligations.OnlyResetForgets : Prop :=
  ∀ (c : Instr) (s t : State), exec c s = .next t → (∀ straps, c ≠ .deviceReset straps) →
    (s.line.upstream ≠ none → t.line.upstream ≠ none) ∧ t.line.address = s.line.address
      ∧ (s.line.masked.predictive = true → t.line.masked.predictive = true)
      ∧ (s.line.masked.audit = true → t.line.masked.audit = true)
      ∧ (s.line.masked.load = true → t.line.masked.load = true)
      ∧ (s.line.masked.trailRequests = true → t.line.masked.trailRequests = true)

/-- The previous command changes only at steps, and there by at most the rate step; while unknown it is made known
only by an acknowledgement. Device reset apart. -/
def Obligations.CommandMovesByRateStep : Prop :=
  ∀ (c : Instr) (s t : State), exec c s = .next t → (∀ straps, c ≠ .deviceReset straps) →
    (∀ x, s.mode.prevCommand = some x → c ≠ .stepExpiry → t.mode.prevCommand = some x)
    ∧ (∀ x, s.mode.prevCommand = some x → c = .stepExpiry →
        ∃ y, t.mode.prevCommand = some y
          ∧ (y - x).natAbs ≤ max 1 (s.params.rateMax * s.params.stepMs / 1000)
          ∧ (s.mode.mode = .hold → y = x))
    ∧ (s.mode.prevCommand = none → (∀ q x st, c ≠ .driveAck q x st) → t.mode.prevCommand = none)

/-- While a staged burst's bank is CLOSED (the law of R46), no command but device reset writes or erases a slot of a
bank that is OPENING, OPEN or FAILED. -/
def Obligations.VerifiedSlotsStand : Prop :=
  ∀ (c : Instr) (s t : State) (b : Fin 4), StagedLaw s.store → exec c s = .next t →
    (∀ straps, c ≠ .deviceReset straps) → (bankOf s.store b).state ≠ .closed →
    (bankOf t.store b).slots = (bankOf s.store b).slots

/-- The uncertainty decreases only when a fix is applied. -/
def Obligations.UncertaintyFallsByFix : Prop :=
  ∀ (c : Instr) (s t : State), exec c s = .next t → (∀ straps, c ≠ .deviceReset straps) → t.pos.u < s.pos.u →
    t.pos.uFix = t.pos.u ∧ t.pos.sinceFix = 0 ∧ t.pos.u ≤ 50
      ∧ t.pos.fixesApplied = min 65535 (s.pos.fixesApplied + 1)
      ∧ ∃ port h beacon passage accuracy verdict rest, c = .fix port h beacon passage accuracy verdict rest
        ∧ t.pos.fixOffset = (beacon.toNat : Int) - passage.toNat

/-- No change of mode goes unreported: under one of the report tags the command uses, a MODE report of the new mode and
the mode before it is sent, or dropped by a full queue. Device reset apart. -/
def Obligations.ModeChangesReported : Prop :=
  ∀ (c : Instr) (s t : State), exec c s = .next t → (∀ straps, c ≠ .deviceReset straps) →
    t.mode.mode ≠ s.mode.mode → ∃ (j k : Nat) (r : ModeReport),
      j < k ∧ k ≤ 4 ∧ t.line.reportTag = s.line.reportTag + BitVec.ofNat 16 k
      ∧ ReportPlaced s t (s.line.reportTag + BitVec.ofNat 16 j) (.mode r)
      ∧ r.new = t.mode.mode ∧ r.previous = s.mode.mode
      ∧ r.target = (if t.mode.mode = .centring then some t.mode.target else none)
      ∧ r.holdReturn = (if t.mode.mode = .hold then t.mode.holdReturn else none)
      ∧ r.saved = (if t.mode.mode = .fault then some t.mode.saved else none)
      ∧ r.holdFlag = t.mode.holdFlag ∧ r.prevCommand = t.mode.prevCommand

/-! ### The line -/

/-- A frame that joins a full queue is dropped and counted; it waits behind the others while the port sends; it is
sent at once by an idle port with empty queues. At the end of a transmission the arbiter chooses by the streak. -/
def Obligations.LineQueuesAndArbiter : Prop :=
  ∀ (p : PortState) (f x : Frame),
    (p.fwd.length = 16 → joinForward f p = { p with overrun := min 65535 (p.overrun + 1) })
    ∧ (p.own.length = 8 → joinOwn f p = { p with ownDrop := min 65535 (p.ownDrop + 1) })
    ∧ (p.fwd.length < 16 → p.sending = some x → joinForward f p = { p with fwd := p.fwd ++ [f] })
    ∧ (p.own.length < 8 → p.sending = some x → joinOwn f p = { p with own := p.own ++ [f] })
    ∧ (p.sending = none → p.fwd = [] → p.own = [] →
        joinForward f p = { p with sending := some f, fwd := [], streak := 0 }
        ∧ joinOwn f p = { p with sending := some f, own := [], streak := 0 })
    ∧ ∀ (port : Port) (s : State), s.held = false → portOf s.line port = p → p.sending = some x →
        ∃ q, exec (.transmissionCompletion port) s = .next { s with line := setPort s.line port q }
          ∧ (p.fwd = [] → p.own = [] → q = { p with sending := none })
          ∧ (∀ g gs, p.fwd = g :: gs → p.own = [] → q = { p with sending := some g, fwd := gs, streak := 0 })
          ∧ (∀ g gs o os, p.fwd = g :: gs → p.own = o :: os → p.streak ≤ 3 →
              q = { p with sending := some g, fwd := gs, streak := p.streak + 1 })
          ∧ (∀ g gs o os, p.fwd = g :: gs → p.own = o :: os → p.streak = 4 →
              q = { p with sending := some o, own := os, streak := 0 })
          ∧ (∀ o os, p.fwd = [] → p.own = o :: os → q = { p with sending := some o, own := os, streak := 0 })

/-- A REPLY, a REPORT, an unknown kind or a request for another node is counted and passed on out of the other port,
its hop count one higher, held at 255, and everything else as it was. Whichever row of the table a REQUEST frame is
read under, it means what the row of its code means (the model's choice, log entry 19). -/
def Obligations.PassedFrames : Prop :=
  ∀ (port : Port) (h : Header) (kind : Byte) (payload : List Byte) (s : State),
    (s.held = false → exec (.frameForward port h (.other kind payload)) s = .next
      (onPort (otherPort port)
        (joinForward
          { h := { h with hop := BitVec.ofNat 8 (min 255 (h.hop.toNat + 1)) }, body := .raw kind payload })
        (onPort port (fun x => { x with received := min 65535 (x.received + 1) }) s)))
    ∧ (s.held = false → trailMasked s port = false → h.dest ≠ 0#8 → s.line.address ≠ some h.dest →
        exec (.frameForward port h (.request payload)) s = .next
          (onPort (otherPort port)
            (joinForward
              { h := { h with hop := BitVec.ofNat 8 (min 255 (h.hop.toNat + 1)) }, body := .request payload })
            (onPort port (fun x => { x with received := min 65535 (x.received + 1) }) s)))
    ∧ exec (.frameForward port h (.request payload)) s = exec (decodeRequest port h payload) s
    ∧ exec (.trailDrop port h payload) s = exec (decodeRequest port h payload) s

/-- Under the TRAIL_REQUESTS mask every REQUEST frame from the downstream port is dropped, whatever its destination
and its code: nothing but the port's received count and the TRAIL_DROP count changes. -/
def Obligations.TrailRequestsDropped : Prop :=
  ∀ (port : Port) (h : Header) (payload : List Byte) (s : State),
    s.held = false → s.line.masked.trailRequests = true → s.line.upstream = some (otherPort port) →
    let t := onPort port (fun x => { x with received := min 65535 (x.received + 1) }) s
    let u := { t with line := { t.line with trailDrop := min 65535 (t.line.trailDrop + 1) } }
    exec (.trailDrop port h payload) s = .next u ∧ exec (decodeRequest port h payload) s = .next u

/-- A request whose effective level, the larger of its level (above 3 taken as 3) and its port's floor, is a larger
number than the required one is answered LEVEL and counted, and nothing else happens: no block is handed it. -/
def Obligations.RequestLevelRefused : Prop :=
  ∀ (port : Port) (h : Header) (code : Byte) (args : List Byte) (required : Nat) (s : State),
    requiredLevel code = some required → s.held = false → trailMasked s port = false → takesRequest s h.dest = true →
    required < max (min h.level.toNat 3) (floorOf s.line port) →
    let t := requestCounted port s
    exec (decodeRequest port h (code :: args)) s = .next
      (concludeRequest port h code args .level .empty
        { t with line := { t.line with levelRefusals := min 65535 (t.line.levelRefusals + 1) } })

/-- A request code outside the catalogue is answered UNKNOWN, at any level. A payload without any code is answered
UNKNOWN under a code that is a free value (log entry 4). -/
def Obligations.UnknownRequestAnswered : Prop :=
  ∀ (port : Port) (h : Header) (s : State), s.held = false → trailMasked s port = false → takesRequest s h.dest = true →
    (∀ (code : Byte) (args : List Byte), requiredLevel code = none →
      decodeRequest port h (code :: args) = .requestUnknown port h (code :: args)
      ∧ exec (.requestUnknown port h (code :: args)) s = .next
          (concludeRequest port h code args .unknown .empty (requestCounted port s)))
    ∧ exec (.requestUnknown port h []) s = .next
        (passBroadcast port h []
          (sendReply port h.source h.tag (Config.missingCode s.freeCount) .unknown .empty
            { requestCounted port s with freeCount := s.freeCount + 1 }))

/-- A reply and a report carry what R162 and R163 say, and join the own-frame queues they name; a report uses its tag
whether it is queued or dropped, and both copies of one report carry one tag. -/
def Obligations.OwnFramesFormed : Prop :=
  ∀ (arrival : Port) (source : Byte) (tag : Word16) (code : Byte) (result : ResultCode) (payload : ReplyPayload)
    (r : Report) (s : State),
    let reply : Frame := {
      h := { dest := source, source := s.line.address.getD 0#8, level := 0#8, tag := tag, hop := 0#8 }
      body := .reply code result payload }
    let report : Frame := {
      h := { dest := 0#8, source := s.line.address.getD 0#8, level := 0#8, tag := s.line.reportTag, hop := 0#8 }
      body := .report r }
    (∀ p, s.line.upstream = some p →
      sendReply arrival source tag code result payload s = onPort p (joinOwn reply) s
      ∧ portOf (sendReport r s).line p = joinOwn report (portOf s.line p)
      ∧ portOf (sendReport r s).line (otherPort p) = portOf s.line (otherPort p))
    ∧ (s.line.upstream = none →
      sendReply arrival source tag code result payload s = onPort arrival (joinOwn reply) s
      ∧ ∀ p, portOf (sendReport r s).line p = joinOwn report (portOf s.line p))
    ∧ (sendReport r s).line.reportTag = s.line.reportTag + 1#16
    ∧ { sendReport r s with line := s.line } = s

/-! ### Requests

In the statements about requests the reply is placed before the forwarded copy of a broadcast, and a reply that
the spec gives no payload carries none; both are deduced (log entries 10 and 13). -/

/-- STATUS READ carries the page its argument names, with the items that the named block's chapter lists, the mode,
the capability word and the node address, all as they stand with this request counted, and changes nothing else. The
LINE page shows of each port the numbers of its frames; the POSITION page has the three flags of a position query at
this instant; the STORE page has the number of each bank's written slots; the QUEUE page shows of the entries their
number, the oldest and the newest; the AUDIT page shows its record only while it is valid. A code that names no page,
or no argument byte, is BAD_ARG. That the counts are those with this request, and that the LINE page shows of a
transmitter only whether it is sending, are the model's choices (log entries 6 and 24). -/
def Obligations.StatusReadPages : Prop :=
  ∀ (port : Port) (h : Header) (args : List Byte) (s : State), Admitted s port h 3 →
    let t := requestCounted port s
    let run := exec (.statusRead port h args) s
    let shown (page : StatusPage) := run = .next
      (concludeRequest port h 1#8 args .done (.status page s.mode.mode s.line.masked s.line.address) t)
    let ofPort (p : PortState) : PortPage := {
      forwarding := p.fwd.length, own := p.own.length, sending := decide (p.sending ≠ none), streak := p.streak
      received := p.received, checkErrors := p.checkErrors, overrun := p.overrun, ownDrop := p.ownDrop }
    let ofBank (b : Bank) : BankPage := {
      state := b.state, count := b.count, last := b.last
      written := ((List.range 512).filter fun i => decide (slotGet b.slots i ≠ none)).length }
    (args.length < 1 ∨ arg8 args 0 = 0 ∨ 9 < arg8 args 0 →
      run = .next (concludeRequest port h 1#8 args .badArg .empty t))
    ∧ (1 ≤ args.length →
      (arg8 args 0 = 1 → shown (.line {
        upstream := s.line.upstream, floorA := s.line.floorA, floorB := s.line.floorB, masked := s.line.masked
        portA := ofPort t.line.portA, portB := ofPort t.line.portB, reportTag := s.line.reportTag
        trailDrop := s.line.trailDrop, requestsTaken := min 65535 (s.line.requestsTaken + 1)
        levelRefusals := s.line.levelRefusals }))
      ∧ (arg8 args 0 = 2 → shown (.position {
        items := s.pos, upstream := s.line.upstream, stale := (positionQuery s).stale
        range := (positionQuery s).range, uExceeds := (positionQuery s).uExceeds }))
      ∧ (arg8 args 0 = 3 → shown (.walker {
        active := s.walker.active, cursor := s.walker.cursor, nullCause := s.walker.nullCause, lostAt := s.walker.lostAt
        losses := s.walker.losses, look := s.look }))
      ∧ (arg8 args 0 = 4 → StoresCanonical s → shown (.store {
        bank0 := ofBank s.store.bank0, bank1 := ofBank s.store.bank1, bank2 := ofBank s.store.bank2
        bank3 := ofBank s.store.bank3, staged := s.store.staged.map fun x => (x.bank, x.group)
        interruptions := s.store.interruptions }))
      ∧ (arg8 args 0 = 5 → shown (.queue {
        items := { s.queue with entries := [] }, number := s.queue.entries.length
        oldest := s.queue.entries.head?, newest := s.queue.entries.getLast? }))
      ∧ (arg8 args 0 = 6 → shown (.demand s.demand))
      ∧ (arg8 args 0 = 7 → shown (.mode s.mode (decide (s.holdReply ≠ none))))
      ∧ (arg8 args 0 = 8 → shown (.drive s.drive))
      ∧ (arg8 args 0 = 9 → shown (.audit {
        armed := s.audit.armed, period := s.audit.period, counter := s.audit.counter, pending := s.audit.pending
        record := if s.audit.valid = true then s.audit.record else none, valid := s.audit.valid
        stepNumber := s.audit.stepNumber })))

/-- PARAM SET applies its value after the range clamp and then the timing clamp, and answers CLAMPED with the value
applied when that differs. A floor needs effective level 0 and is otherwise refused LEVEL, which is counted (deduced,
log entry 7). PARAM READ gives the value in force. An identifier that names no parameter, or too few argument bytes,
are BAD_ARG, the latter also of a floor at a level above 0 (the model's choice, log entry 26). A PARAM SET of
odo_lost_ms that moves the expiry of a running watchdog to an instant already passed makes it occur at once: the fault
ODO_LOST is taken and the watchdog becomes IDLE. That the present instant counts as passed, and that all this is part
of the PARAM SET, with its reply last, is deduced (log entry 20). -/
def Obligations.ParamRequests : Prop :=
  ∀ (port : Port) (h : Header) (args : List Byte) (s : State),
    let t := requestCounted port s
    (Admitted s port h 1 → args.length < 3 ∨ paramOfCode (arg8 args 0) = none →
      exec (.paramSet port h args) s = .next (concludeRequest port h 2#8 args .badArg .empty t))
    ∧ (Admitted s port h 3 → args.length < 1 ∨ paramOfCode (arg8 args 0) = none →
      exec (.paramRead port h args) s = .next (concludeRequest port h 3#8 args .badArg .empty t))
    ∧ ∀ x : Param, paramOfCode (arg8 args 0) = some x →
    (Admitted s port h 1 → 3 ≤ args.length → x = .floorA ∨ x = .floorB → 0 < effectiveLevel s port h →
      exec (.paramSet port h args) s = .next
        (concludeRequest port h 2#8 args .level .empty
          { t with line := { t.line with levelRefusals := min 65535 (t.line.levelRefusals + 1) } }))
    ∧ (Admitted s port h 1 → 3 ≤ args.length → (x = .floorA ∨ x = .floorB → effectiveLevel s port h = 0) →
      let v := argInt16 args 1
      let w := max (paramRange x).1 (min (paramRange x).2 v)
      let a := if x = .odoTimeout then min w s.params.odoLostMs
        else if x = .odoLostMs then max w s.params.odoTimeout else w
      let u := setParam x a t
      let passed : Prop := x = .odoLostMs ∧ s.pos.watchdog = .running
        ∧ ∃ arrival, s.clock.arrival = some arrival ∧ (arrival : Int) + a * 2000 ≤ s.clock.now
      let applied (z : State) : Prop :=
        exec (.paramSet port h args) s = .next
          (concludeRequest port h 2#8 args (if a = v then .done else .clamped) (if a = v then .empty else .value a) z)
        ∧ getParam x z = a ∧ ∀ y, y ≠ x → getParam y z = getParam y s
      (¬ passed → applied u) ∧ (passed → applied (takeFault .odoLost { u with pos := { s.pos with watchdog := .idle } })))
    ∧ (Admitted s port h 3 → 1 ≤ args.length →
        exec (.paramRead port h args) s = .next
          (concludeRequest port h 3#8 args .done (.value (getParam x s)) t))

/-- MODE SET acts by the mode it finds and its target, or is refused by the first check of R124 that fails, and nothing
changes; every reply carries the mode held when it was taken. A MODE SET with too few argument bytes is BAD_ARG (R175);
that its reply carries the mode held, as the replies of R124 do, is deduced (log entry 13). -/
def Obligations.ModeSetActs : Prop :=
  ∀ (port : Port) (h : Header) (args : List Byte) (s : State), Admitted s port h 2 →
    let t := requestCounted port s
    let reply (result : ResultCode) := concludeRequest port h 4#8 args result
      (.modeHeld s.mode.mode (if s.mode.mode = .centring then some s.mode.target else none))
    let done := reply .done
    let stopped : Prop := s.mode.mode = .hold ∨ s.mode.mode = .fault
    (args.length < 1 ∨ arg8 args 0 = 1 ∨ 3 < arg8 args 0 →
      exec (.modeSet port h args) s = .next (reply .badArg t))
    ∧ ∀ target : ChosenMode, 1 ≤ args.length →
    (arg8 args 0 = 0 ∧ target = .off ∨ arg8 args 0 = 2 ∧ target = .reactive
      ∨ arg8 args 0 = 3 ∧ target = .predictive) →
    (stopped → exec (.modeSet port h args) s = .next (reply .modeRefused t))
    ∧ (¬ stopped → target = .predictive → s.line.masked.predictive = true →
        exec (.modeSet port h args) s = .next (reply .masked t))
    ∧ (¬ stopped → target ≠ .off → (target = .predictive → s.line.masked.predictive = false) →
        s.line.upstream = none → exec (.modeSet port h args) s = .next (reply .modeRefused t))
    ∧ (Admits s target →
    (s.mode.mode = .centring →
      exec (.modeSet port h args) s = .next (done { t with mode := { s.mode with target := target } }))
    ∧ (s.mode.mode = .off ∨ s.mode.mode = .reactive ∨ s.mode.mode = .predictive →
        (chosenToMode target = s.mode.mode → exec (.modeSet port h args) s = .next (done t))
        ∧ (chosenToMode target ≠ s.mode.mode → target ≠ .off →
            exec (.modeSet port h args) s = .next
              (done (modeChanged .modeSet { s.mode with mode := chosenToMode target } t)))
        ∧ (s.mode.mode ≠ .off → target = .off →
            exec (.modeSet port h args) s = .next
              (done (modeChanged .modeSet { s.mode with mode := .centring, target := .off } t)))))

/-- A DESC WRITE is refused by the first of its checks that fails, the fields being checked last, and nothing changes.
One that passes replaces the whole descriptor, and no other; its write level is the larger number of that requested,
above 3 taken as 3, and the effective level. The model's choices: that bits without a meaning are ignored (log entry
21), and that too few argument bytes are BAD_ARG before the checks of the write level and of the active selector (log
entry 26). -/
def Obligations.DescWriteStores : Prop :=
  ∀ (port : Port) (h : Header) (args : List Byte) (s : State), Admitted s port h 1 →
    let f := descFields args
    let level := effectiveLevel s port h
    let held := ((slotGet s.walker.descs f.selector).map Descriptor.writeLevel).getD 3
    let t := requestCounted port s
    let run := exec (.descWrite port h args) s
    let refused (result : ResultCode) := run = .next (concludeRequest port h 5#8 args result .empty t)
    let high := f.base + (if f.granularity = .fine then f.lengthField + 1 else (f.lengthField + 1) * 64) - 1
    let unfit : Prop := 5 ≤ f.typeCode ∨ 16777215 < high ∨ 63 < f.nextUp ∨ 63 < f.nextDown
      ∨ (f.typeCode = 1 ∧ (3 < f.bank ∨ 511 < f.first ∨ 512 < f.count ∨ 512 < f.first + f.count))
      ∨ (f.typeCode = 4 ∧ 800 < f.limit)
    (args.length < 17 ∨ f.selector = 0 ∨ 63 < f.selector → refused .badArg)
    ∧ (17 ≤ args.length → 1 ≤ f.selector → f.selector ≤ 63 →
      (held < level → refused .level)
      ∧ (level ≤ held → f.selector = s.walker.active → refused .inUse)
      ∧ (level ≤ held → f.selector ≠ s.walker.active → unfit → refused .badArg)
      ∧ ∀ d : Descriptor, level ≤ held → f.selector ≠ s.walker.active →
        (f.typeCode = 0 ∧ d.kind = .invalid
          ∨ (f.typeCode = 1 ∧ f.first ≤ 511 ∧ f.count ≤ 512 ∧ f.first + f.count ≤ 512
              ∧ ∃ b : Fin 4, f.bank = b.val ∧ d.kind = .curveList b f.first f.count)
          ∨ f.typeCode = 2 ∧ d.kind = .plain
          ∨ f.typeCode = 3 ∧ d.kind = .noTilt
          ∨ f.typeCode = 4 ∧ f.limit ≤ 800 ∧ d.kind = .reduced f.limit) →
        d.base = f.base → d.lengthField = f.lengthField → d.granularity = f.granularity →
        d.nextUp = f.nextUp → d.nextDown = f.nextDown → d.writeLevel = max (min f.writeLevel 3) level →
        f.nextUp ≤ 63 → f.nextDown ≤ 63 → high ≤ 16777215 →
        run = .next
            (concludeRequest port h 5#8 args (if min f.writeLevel 3 < level then .clamped else .done)
              (.writeLevel d.writeLevel)
              { t with walker := { s.walker with descs := slotSet s.walker.descs f.selector d } })
          ∧ slotGet (slotSet s.walker.descs f.selector d) f.selector = some d
          ∧ ∀ i, i ≠ f.selector → slotGet (slotSet s.walker.descs f.selector d) i = slotGet s.walker.descs i)

/-- A DESC CLEAR is refused by the first of its checks that fails, and nothing changes; one that passes makes its
descriptor not present and leaves every other. DESC READ of a selector 1 .. 63 carries the descriptor and whether it
is the active one, and changes no state; of any other it is BAD_ARG. The bytes shown of a descriptor that is not
present, and the bits without a meaning, are the model's choices (log entries 21 and 22). -/
def Obligations.DescClearAndRead : Prop :=
  ∀ (port : Port) (h : Header) (args : List Byte) (s : State),
    let sel := arg8 args 0
    let level := effectiveLevel s port h
    let held := ((slotGet s.walker.descs sel).map Descriptor.writeLevel).getD 3
    let t := requestCounted port s
    let cleared := exec (.descClear port h args) s
    let refused (result : ResultCode) := cleared = .next (concludeRequest port h 6#8 args result .empty t)
    (Admitted s port h 1 →
      (args.length < 1 ∨ sel = 0 ∨ 63 < sel → refused .badArg)
      ∧ (1 ≤ args.length → 1 ≤ sel → sel ≤ 63 →
        (held < level → refused .level)
        ∧ (level ≤ held → sel = s.walker.active → refused .inUse)
        ∧ (level ≤ held → sel ≠ s.walker.active → slotGet s.walker.descs sel = none → refused .absent)
        ∧ (level ≤ held → sel ≠ s.walker.active → slotGet s.walker.descs sel ≠ none →
          cleared = .next
              (concludeRequest port h 6#8 args .done .empty
                { t with walker := { s.walker with descs := slotErase s.walker.descs sel } })
            ∧ slotGet (slotErase s.walker.descs sel) sel = none
            ∧ ∀ i, i ≠ sel → slotGet (slotErase s.walker.descs sel) i = slotGet s.walker.descs i)))
    ∧ (Admitted s port h 3 →
      (args.length < 1 ∨ sel = 0 ∨ 63 < sel →
        exec (.descRead port h args) s = .next (concludeRequest port h 7#8 args .badArg .empty t))
      ∧ (1 ≤ args.length → 1 ≤ sel → sel ≤ 63 →
        exec (.descRead port h args) s = .next
          (concludeRequest port h 7#8 args .done
            (.descriptor (descriptorBytes sel (slotGet s.walker.descs sel)) (decide (sel = s.walker.active))) t)))

/-- SECTION SELECT of 0 makes the active selector null with cause SELECT and lost-at 0; of a usable section, makes it
active. Both leave the cursor UNPLACED, clear the last walk point and direction, and clear the DISAGREE latch and the
run count; the losses are not counted. Any other is refused, and nothing changes: a selector out of range BAD_ARG, a
section absent or INVALID ABSENT, one whose bank is not OPEN BANK_CLOSED, one whose bank has too few records BAD_ARG. -/
def Obligations.SectionSelectActs : Prop :=
  ∀ (port : Port) (h : Header) (args : List Byte) (s : State),
    let sel := arg8 args 0
    let t := requestCounted port s
    let demand := { s.demand with latch := false, runCount := 0 }
    let refused (result : ResultCode) :=
      exec (.sectionSelect port h args) s = .next (concludeRequest port h 16#8 args result .empty t)
    Admitted s port h 1 →
    (args.length < 1 ∨ 63 < sel → refused .badArg)
    ∧ (1 ≤ args.length → 1 ≤ sel → sel ≤ 63 →
      (slotGet s.walker.descs sel = none → refused .absent)
      ∧ ∀ d, slotGet s.walker.descs sel = some d →
        (d.kind = .invalid → refused .absent)
        ∧ ∀ b first count, d.kind = .curveList b first count →
          ((bankOf s.store b).state ≠ .opened → refused .bankClosed)
          ∧ ((bankOf s.store b).state = .opened → (bankOf s.store b).count < first + count → refused .badArg))
    ∧ (1 ≤ args.length → sel = 0 →
      exec (.sectionSelect port h args) s = .next
        (concludeRequest port h 16#8 args .done (.selector 0)
          { t with
            demand := demand
            walker := {
              s.walker with
              active := 0, cursor := .unplaced, nullCause := .select, lostAt := 0, lastPoint := none, lastDir := none } }))
    ∧ (∀ d, 1 ≤ args.length → 1 ≤ sel → sel ≤ 63 → slotGet s.walker.descs sel = some d → KindUsable s.store d.kind →
        exec (.sectionSelect port h args) s = .next
          (concludeRequest port h 16#8 args .done (.selector sel)
            { t with
              demand := demand
              walker := { s.walker with active := sel, cursor := .unplaced, lastPoint := none, lastDir := none } }))

/-! ### Requests of the curve store -/

/-- A LOAD HEAD of length 4 that passes its checks writes its present positions, one to its slot, each as R40 stores
it, and no other slot; its OPEN-AFTER is judged after the write. A LOAD HEAD of length 8 writes nothing and fills the
staging buffer. Either first abandons a burst staged for the same bank, and counts it. While LOAD is masked the head
is refused MASKED, also with too few argument bytes (deduced, log entry 14); else it is refused by the first check of
R44 that fails; the payload of a refusal, 0 slots and NOT ASKED, is deduced (log entry 13). A CLAMPED reply carries the
values applied. The model's choices: that bits without a meaning are ignored (log entry 21), in what form the values
applied stand (log entry 23), and that too few argument bytes are found before the checks of R44 (log entry 26). -/
def Obligations.LoadHeadActs : Prop :=
  ∀ (port : Port) (h : Header) (args : List Byte) (s : State), Admitted s port h 1 →
    let t := requestCounted port s
    let refused (result : ResultCode) := exec (.loadHead port h args) s = .next
      (concludeRequest port h 8#8 args result (.load false 0 .notAsked []) t)
    (s.line.masked.load = true → refused .masked)
    ∧ (s.line.masked.load = false → args.length < 74 ∨ 3 < arg8 args 0 ∨ 63 < arg8 args 1 → refused .badArg)
    ∧ ∀ b : Fin 4, s.line.masked.load = false → 74 ≤ args.length → arg8 args 0 = b.val → arg8 args 1 ≤ 63 →
    ((bankOf s.store b).state ≠ .closed → refused .bankClosed)
    ∧ ((bankOf s.store b).state = .closed → (∃ x, s.store.staged = some x ∧ x.bank ≠ b) → refused .busy)
    ∧ (let group := arg8 args 1
      let start := arg8 args 2 % 8
      let ps := argPositions args 6
      let slots := (bankOf s.store b).slots
      let kept := { s.store with
        staged := none
        interruptions := if s.store.staged = none then s.store.interruptions
          else min 65535 (s.store.interruptions + 1) }
      (bankOf s.store b).state = .closed → (∀ x, s.store.staged = some x → x.bank = b) →
      (argBit args 2 3 = false →
        let after := writePositions (slotOfShort group start) 0 ps slots
        let r := openJudged (argBit args 3 0) b (arg16 args 4) s.clock.now
          (setBank kept b { bankOf s.store b with slots := after })
        exec (.loadHead port h args) s = .next
            (concludeRequest port h 8#8 args (burstResult ps)
              (.load false (ps.filter Option.isSome).length r.2 (burstApplied ps)) { t with store := r.1 })
          ∧ BurstPlaced (fun k => 8 * group + (start - start % 4) + (start + k) % 4) ps slots after)
      ∧ (argBit args 2 3 = true →
        exec (.loadHead port h args) s = .next
          (concludeRequest port h 8#8 args .done (.load true 0 .notAsked [])
            { t with store := { kept with
                staged := some { bank := b, group := group, start := start, positions := ps } } })))

/-- A LOAD TAIL that names the staged burst's bank and group writes all eight positions, the four staged first, one to
its slot, and no other slot, and empties the staging buffer; its OPEN-AFTER is judged after the write. Any other tail
leaves the store as it was: MASKED while LOAD is masked, also with too few argument bytes (deduced, log entry 14), and
else BAD_ARG, for too few bytes, with no burst staged, or for another bank or group than the staged one. The payload
of a refusal, 0 slots and NOT ASKED, is deduced (log entry 13). A CLAMPED reply carries the values applied. The model's
choices: that bits without a meaning are ignored (log entry 21), and in what form the values applied stand (log entry
23). -/
def Obligations.LoadTailActs : Prop :=
  ∀ (port : Port) (h : Header) (args : List Byte) (s : State), Admitted s port h 1 →
    let t := requestCounted port s
    let refused (result : ResultCode) := exec (.loadTail port h args) s = .next
      (concludeRequest port h 9#8 args result (.load false 0 .notAsked []) t)
    (s.line.masked.load = true → refused .masked)
    ∧ (s.line.masked.load = false → args.length < 73 ∨ s.store.staged = none → refused .badArg)
    ∧ ∀ x : StagedBurst, s.line.masked.load = false → 73 ≤ args.length → s.store.staged = some x →
      (arg8 args 0 ≠ x.bank.val ∨ arg8 args 1 ≠ x.group → refused .badArg)
      ∧ (let ps := x.positions ++ argPositions args 5
        let slots := (bankOf s.store x.bank).slots
        let after := writePositions (slotOfLong x.group x.start) 0 ps slots
        let r := openJudged (argBit args 2 0) x.bank (arg16 args 3) s.clock.now
          { setBank s.store x.bank { bankOf s.store x.bank with slots := after } with staged := none }
        x.positions.length = 4 → x.start ≤ 7 → (bankOf s.store x.bank).state = .closed →
        arg8 args 0 = x.bank.val → arg8 args 1 = x.group →
        exec (.loadTail port h args) s = .next
            (concludeRequest port h 9#8 args (burstResult ps)
              (.load false (ps.filter Option.isSome).length r.2 (burstApplied ps)) { t with store := r.1 })
          ∧ BurstPlaced (fun k => 8 * x.group + (x.start + k) % 8) ps slots after)

/-- BANK OPEN of a CLOSED or FAILED bank, with a count in range, no verification running and no burst staged for the
bank, makes it OPENING and the verifier busy with it; its slots, record count and last verification stand. Any other is
refused by the first check of R50 that fails, and nothing changes. -/
def Obligations.BankOpenStarts : Prop :=
  ∀ (port : Port) (h : Header) (args : List Byte) (s : State), Admitted s port h 1 →
    let n := arg16 args 1
    let t := requestCounted port s
    let run := exec (.bankOpen port h args) s
    let refused (result : ResultCode) := run = .next (concludeRequest port h 10#8 args result .empty t)
    (args.length < 3 ∨ 3 < arg8 args 0 ∨ n = 0 ∨ 512 < n → refused .badArg)
    ∧ ∀ b : Fin 4, 3 ≤ args.length → arg8 args 0 = b.val → 1 ≤ n → n ≤ 512 →
      let bk := bankOf s.store b
      let opening : Prop := ∃ b', (bankOf s.store b').state = .opening
      let waiting : Prop := ∃ x, s.store.staged = some x ∧ x.bank = b
      (bk.state ≠ .closed → bk.state ≠ .failed → refused .badArg)
      ∧ (bk.state = .closed ∨ bk.state = .failed →
        (opening → refused .busy)
        ∧ (¬ opening → waiting → refused .pendingLoad)
        ∧ (¬ opening → ¬ waiting → run = .next
          (concludeRequest port h 10#8 args .done .empty
            { t with
              store := { setBank s.store b { bk with state := .opening } with
                verifier := some {
                  bank := b, expected := n, nextIndex := 0
                  dueBy := s.clock.now + examined bk.slots n * Config.ticksPerRecord } } })))

/-- BANK CLOSE acts by the bank's state, and is BAD_ARG without a bank 0 .. 3. In every case the slots and the record
count are kept. -/
def Obligations.BankCloseActs : Prop :=
  ∀ (port : Port) (h : Header) (args : List Byte) (s : State), Admitted s port h 1 →
    let t := requestCounted port s
    (args.length < 1 ∨ 3 < arg8 args 0 →
      exec (.bankClose port h args) s = .next (concludeRequest port h 11#8 args .badArg .empty t))
    ∧ ∀ b : Fin 4,
    let bk := bankOf s.store b
    let closed := setBank s.store b { bk with state := .closed }
    let done := concludeRequest port h 11#8 args .done .empty
    1 ≤ args.length → arg8 args 0 = b.val →
    (bk.state = .closed → exec (.bankClose port h args) s = .next (done t))
    ∧ (bk.state = .failed → exec (.bankClose port h args) s = .next (done { t with store := closed }))
    ∧ (bk.state = .opened →
        (bankInUse s.walker b = true ↔ s.walker.active ≠ 0 ∧ ∃ d first count,
          slotGet s.walker.descs s.walker.active = some d ∧ d.kind = .curveList b first count)
        ∧ (bankInUse s.walker b = true →
            exec (.bankClose port h args) s = .next (concludeRequest port h 11#8 args .inUse .empty t))
        ∧ (bankInUse s.walker b = false → exec (.bankClose port h args) s = .next (done { t with store := closed })))
    ∧ ∀ x, bk.state = .opening → s.store.verifier = some x →
        exec (.bankClose port h args) s = .next
          (done (sendReport (.bank b (.abandoned x.expected))
            { t with store := { setBank s.store b { bk with state := .closed, last := .abandoned x.expected } with
                verifier := none } }))

/-- BANK ERASE of a CLOSED bank without a staged burst empties its slots, its record count and its last verification,
and nothing else. While LOAD is masked it is refused MASKED, also with too few argument bytes (deduced, log entry 14);
else it is refused by the first check of R58 that fails. RECORD READ carries the bank's state and the slot, and
changes no state; without a bank 0 .. 3 and an index 0 .. 511 it is BAD_ARG. The bytes shown of an unwritten slot or
an absent part, and the bits without a meaning, are the model's choices (log entries 21 and 22). -/
def Obligations.BankEraseAndRecordRead : Prop :=
  ∀ (port : Port) (h : Header) (args : List Byte) (s : State),
    let t := requestCounted port s
    let erased := exec (.bankErase port h args) s
    let refused (result : ResultCode) := erased = .next (concludeRequest port h 12#8 args result .empty t)
    let read := exec (.recordRead port h args) s
    (Admitted s port h 1 →
      (s.line.masked.load = true → refused .masked)
      ∧ (s.line.masked.load = false → args.length < 1 ∨ 3 < arg8 args 0 → refused .badArg)
      ∧ ∀ b : Fin 4, s.line.masked.load = false → 1 ≤ args.length → arg8 args 0 = b.val →
        let waiting : Prop := ∃ x, s.store.staged = some x ∧ x.bank = b
        ((bankOf s.store b).state ≠ .closed → refused .bankClosed)
        ∧ ((bankOf s.store b).state = .closed → waiting → refused .pendingLoad)
        ∧ ((bankOf s.store b).state = .closed → ¬ waiting → erased = .next
          (concludeRequest port h 12#8 args .done .empty
            { t with store := setBank s.store b { slots := [], state := .closed, count := 0, last := .none } })))
    ∧ (Admitted s port h 3 →
      (args.length < 3 ∨ 3 < arg8 args 0 ∨ 511 < arg16 args 1 →
        read = .next (concludeRequest port h 13#8 args .badArg .empty t))
      ∧ ∀ b : Fin 4, 3 ≤ args.length → arg8 args 0 = b.val → arg16 args 1 ≤ 511 → read = .next
        (concludeRequest port h 13#8 args .done
          (.record (bankOf s.store b).state (recordBytes (slotGet (bankOf s.store b).slots (arg16 args 1)))) t))

/-- The completion of a verification opens the bank with count N when every record 0 .. N−1 passes, and else fails it
with the first failing record; the slots stand either way, and one BANK report is sent. -/
def Obligations.VerifyCompletes : Prop :=
  ∀ (x : Verification) (s : State), s.held = false → s.store.verifier = some x →
    let bk := bankOf s.store x.bank
    let outcome (y : Bank) := Host.Outcome.next
      (sendReport (.bank x.bank y.last)
        { s with store := { setBank s.store x.bank y with verifier := none } })
    (verifyRecords bk.slots x.expected = none →
      exec .verifyCompletion s =
        outcome { bk with state := .opened, count := x.expected, last := .pass x.expected })
    ∧ ∀ i reason, verifyRecords bk.slots x.expected = some (i, reason) →
        exec .verifyCompletion s = outcome { bk with state := .failed, last := .fail x.expected i reason }

/-- The verifier's five checks on record i, in order, each with its failure reason. -/
def Obligations.VerifierFindsFirstFault : Prop :=
  ∀ (m : List (Nat × CurveRecord)) (n : Nat),
    let fails (i : Nat) (reason : VerifyReason) : Prop :=
      match slotGet m i with
      | none => reason = .unwritten
      | some r =>
        if 20000 < r.kappa.natAbs then reason = .curvature
        else if 180 < r.cant.natAbs then reason = .cant
        else if r.cant ≠ 0 ∧ r.cant.sign ≠ r.kappa.sign then reason = .cantSign
        else ∃ q, 1 ≤ i ∧ slotGet m (i - 1) = some q ∧ r.start < q.start + q.entry + q.body + q.exit
          ∧ reason = .overlap
    (verifyRecords m n = none ↔ ∀ i < n, ∀ reason, ¬ fails i reason)
    ∧ ∀ i reason, verifyRecords m n = some (i, reason) ↔
        i < n ∧ fails i reason ∧ ∀ j < i, ∀ r, ¬ fails j r

/-! ### Requests of the drive port, the mode controller, the audit and the line interface -/

/-- A STROKE LOAD of a table that meets R147's conditions and a known rounding mode replaces both. While LOAD is
masked it is refused MASKED, also with too few argument bytes (deduced, log entry 14). Else it is BAD_ARG: for too few
bytes, an unknown rounding mode or a stroke out of range; for a table that falls, with the first index at which it
does; for a stroke at angle 0 beyond ±50, with index 8. That too few bytes give no index, whatever the strokes among
them, is the model's choice (log entry 26). STROKE READ carries table, rounding mode and table loaded. -/
def Obligations.StrokeRequests : Prop :=
  ∀ (port : Port) (h : Header) (args : List Byte) (s : State),
    let t := requestCounted port s
    let table := (List.range 17).map fun i => argInt16 args (2 * i)
    let inRange : Prop := ∀ x ∈ table, -9999 ≤ x ∧ x ≤ 9999
    let run := exec (.strokeLoad port h args) s
    let refused (result : ResultCode) (payload : ReplyPayload) :=
      run = .next (concludeRequest port h 14#8 args result payload t)
    (Admitted s port h 0 →
      (s.line.masked.load = true → refused .masked .empty)
      ∧ (s.line.masked.load = false →
        (args.length < 35 ∨ 1 < arg8 args 34 ∨ ¬ inRange → refused .badArg .empty)
        ∧ (35 ≤ args.length → arg8 args 34 ≤ 1 → inRange →
          (∀ i, i ≤ 15 → strokeAt table (i + 1) ≤ strokeAt table i →
            (∀ j < i, strokeAt table j < strokeAt table (j + 1)) → refused .badArg (.index i))
          ∧ (table.Pairwise (· < ·) → 50 < (strokeAt table 8).natAbs → refused .badArg (.index 8))
          ∧ (StrokeLaw table → run = .next
            (concludeRequest port h 14#8 args .done .empty
              { t with
                strokes := table
                drive := {
                  s.drive with
                  rounding := if arg8 args 34 = 0 then .nearest else .truncate, tableLoaded := true } })))))
    ∧ (Admitted s port h 3 →
        exec (.strokeRead port h args) s = .next
          (concludeRequest port h 15#8 args .done (.strokes s.strokes s.drive.rounding s.drive.tableLoaded) t))

/-- HOLD with the flag clear enters HOLD from OFF, REACTIVE, PREDICTIVE or CENTRING with its reply deferred, and in
FAULT sets the flag alone; with the flag set it changes nothing. -/
def Obligations.HoldActs : Prop :=
  ∀ (port : Port) (h : Header) (args : List Byte) (s : State), Admitted s port h 2 →
    let t := requestCounted port s
    let held (ret : ChosenMode) :=
      passBroadcast port h (17#8 :: args)
        (sendReport
          (.mode {
            new := .hold, previous := s.mode.mode, reason := .hold, target := none, holdReturn := some ret
            saved := none, holdFlag := true, prevCommand := s.mode.prevCommand })
          { t with
            holdReply := some { tag := h.tag, source := h.source, port := port }
            mode := { s.mode with holdFlag := true, holdReturn := some ret, mode := .hold, settle := 0 } })
    (s.mode.holdFlag = true →
      exec (.hold port h args) s = .next (concludeRequest port h 17#8 args .done (.hold true .immediate) t))
    ∧ (s.mode.holdFlag = false → s.mode.mode = .fault →
        exec (.hold port h args) s = .next
          (concludeRequest port h 17#8 args .done (.hold false .immediate)
            { t with mode := { s.mode with holdFlag := true } }))
    ∧ (s.mode.holdFlag = false → s.mode.mode = .centring →
        exec (.hold port h args) s = .next (held s.mode.target))
    ∧ ∀ m : ChosenMode, s.mode.holdFlag = false → s.mode.mode = chosenToMode m →
        exec (.hold port h args) s = .next (held m)

/-- RELEASE leaves HOLD for the hold return mode, in FAULT clears the flag alone, and with the flag clear changes
nothing. A pending HOLD reply is answered RELEASED before its own reply and after the MODE report, the last being
the model's choice (log entry 11). -/
def Obligations.ReleaseActs : Prop :=
  ∀ (port : Port) (h : Header) (args : List Byte) (s : State), Admitted s port h 2 →
    let t := requestCounted port s
    let done (flag : Bool) := concludeRequest port h 18#8 args .done (.holdFlag flag)
    let answered (u : State) : State := match s.holdReply with
      | none => u
      | some p => sendReply p.port p.source p.tag 17#8 .done (.hold false .released) { u with holdReply := none }
    (s.mode.holdFlag = false → exec (.release port h args) s = .next (done false t))
    ∧ (∀ m, s.mode.holdFlag = true → s.mode.mode = .hold → s.mode.holdReturn = some m →
        exec (.release port h args) s = .next
          (done true (answered
            (modeChanged .release
              { s.mode with holdFlag := false, mode := chosenToMode m, holdReturn := none, settle := 0 } t))))
    ∧ (s.mode.holdFlag = true → s.mode.mode = .fault →
        exec (.release port h args) s = .next
          (done true (answered { t with mode := { s.mode with holdFlag := false, settle := 0 } })))

/-- RESUME leaves FAULT when the first cause has cleared, for HOLD while the hold flag is set and for the saved mode
otherwise; the first cause, the further-fault count and the saved mode stand. -/
def Obligations.ResumeActs : Prop :=
  ∀ (port : Port) (h : Header) (args : List Byte) (cause : FaultCause) (s : State), Admitted s port h 2 →
    let t := requestCounted port s
    let cleared : Prop := match cause with
      | .driveSilent => s.mode.ackSeen = true
      | .driveFault => s.mode.ackStatus ≠ some .fault
      | .odoLost => s.mode.odoSinceFault = true
      | .lineTurn => s.mode.odoSpeed = 0
    (s.mode.mode ≠ .fault →
      exec (.resume port h args) s = .next (concludeRequest port h 19#8 args .modeRefused .empty t))
    ∧ (s.mode.mode = .fault → s.mode.firstCause = some cause → ¬ cleared →
        exec (.resume port h args) s = .next (concludeRequest port h 19#8 args .notCleared (.cause (some cause)) t))
    ∧ (s.mode.mode = .fault → s.mode.firstCause = some cause → cleared → s.mode.holdFlag = true →
        exec (.resume port h args) s = .next
          (concludeRequest port h 19#8 args .done .empty
            (modeChanged .resume { s.mode with mode := .hold, holdReturn := some s.mode.saved } t)))
    ∧ (s.mode.mode = .fault → s.mode.firstCause = some cause → cleared → s.mode.holdFlag = false →
        exec (.resume port h args) s = .next
          (concludeRequest port h 19#8 args .done .empty
            (modeChanged .resume { s.mode with mode := chosenToMode s.mode.saved } t)))

/-- The step audit. AUDIT ARM with a period of 16 or more and no tag pending arms it, its counter at a drawn value of
0 .. 7; while AUDIT is masked it is refused MASKED, also with too few argument bytes (deduced, log entry 14), else for
too few bytes or a smaller period BAD_ARG, and with a tag pending BUSY, and nothing changes. At a hand-over with no
tag pending it counts while armed and not valid, and tags the step whose count equals the period; with one pending it
completes the record as ABORTED, NO_ACK, and reports it. An answer to the pending DRIVE's sequence completes the
record, sets valid and reports it; any other answer leaves the audit as it was. -/
def Obligations.AuditActs : Prop :=
  (∀ (port : Port) (h : Header) (args : List Byte) (s : State), Admitted s port h 3 →
    let t := requestCounted port s
    let refused (result : ResultCode) :=
      exec (.auditArm port h args) s = .next (concludeRequest port h 20#8 args result .empty t)
    (s.line.masked.audit = true → refused .masked)
    ∧ (s.line.masked.audit = false → args.length < 2 ∨ arg16 args 0 < 16 → refused .badArg)
    ∧ (s.line.masked.audit = false → 2 ≤ args.length → 16 ≤ arg16 args 0 →
      (s.audit.pending ≠ none → refused .busy)
      ∧ (s.audit.pending = none →
        ∃ drawn, drawn ≤ 7 ∧ exec (.auditArm port h args) s = .next
          (concludeRequest port h 20#8 args .done (.armed (arg16 args 0) s.audit.stepNumber)
            { t with
              audit := {
                s.audit with
                period := some (arg16 args 0), valid := false, record := none, counter := drawn, armed := true }
              freeCount := s.freeCount + 1 }))))
  ∧ (∀ (sum : StepSummary) (x : Drive) (s : State), s.audit.pending = none →
    (s.audit.armed = false ∨ s.audit.valid = true → auditHandover sum x s = s)
    ∧ (s.audit.armed = true → s.audit.valid = false → s.audit.period ≠ some (s.audit.counter + 1) →
      auditHandover sum x s = { s with audit := { s.audit with counter := s.audit.counter + 1 } })
    ∧ (s.audit.armed = true → s.audit.valid = false → s.audit.period = some (s.audit.counter + 1) →
      ∃ drawn r, drawn ≤ 7 ∧ auditHandover sum x s = { s with
          audit := { s.audit with
            counter := drawn, record := some r
            pending := some { seq := x.seq, isMove := decide (x.kind ≠ .query) } }
          freeCount := s.freeCount + 1 }
        ∧ r.stepNumber = s.audit.stepNumber ∧ r.mode = sum.mode ∧ r.car = sum.car ∧ r.v = sum.v
        ∧ r.active = sum.active ∧ r.predictive = sum.predictive ∧ r.reactive = sum.reactive
        ∧ r.thetaP = sum.thetaP ∧ r.thetaR = sum.thetaR ∧ r.thetaB = sum.thetaB ∧ r.lEff = sum.lEff
        ∧ r.rate = sum.rate ∧ r.limited = sum.limited ∧ r.restrictionUnknown = sum.restrictionUnknown
        ∧ r.command = sum.command ∧ r.seq = x.seq ∧ r.isMove = decide (x.kind ≠ .query)
        ∧ (∀ a stroke, x.kind = .move a stroke → r.stroke = some stroke) ∧ (x.kind = .query → r.stroke = none)
        ∧ r.senseAccel = s.queue.senseAccel ∧ r.senseValid = s.queue.senseValid ∧ r.completion = .pending))
  ∧ (∀ (sum : StepSummary) (x : Drive) (s : State) (tag : AuditTag) (r : AuditRecord),
    s.audit.pending = some tag → s.audit.record = some r →
      let done := { r with completion := .noAck }
      auditHandover sum x s = sendReport (.audit done)
        { s with audit := { s.audit with record := some done, pending := none, valid := true } })
  ∧ ∀ (seq : Byte) (stroke angle : Int) (status : AckStatus) (s : State),
    (∀ tag r, s.audit.pending = some tag → s.audit.record = some r → tag.seq = seq →
      let done := { r with completion := .complete stroke angle status }
      auditAnswer seq stroke angle status s = sendReport (.audit done)
        { s with audit := { s.audit with record := some done, pending := none, valid := true } })
    ∧ ((∀ tag, s.audit.pending = some tag → tag.seq ≠ seq) → auditAnswer seq stroke angle status s = s)

/-- FEATURE MASK joins the features named to the masked set and has the effect of each newly masked one; its reply
carries the capability word after it. A set that names anything else masks nothing, and a request without a set is
BAD_ARG. -/
def Obligations.FeatureMaskActs : Prop :=
  ∀ (port : Port) (h : Header) (args : List Byte) (s : State), Admitted s port h 0 →
    let t := requestCounted port s
    (args.length < 1 → exec (.featureMask port h args) s = .next (concludeRequest port h 21#8 args .badArg .empty t))
    ∧ (1 ≤ args.length →
      let bit := argBit args 0
      let after : Features := {
        predictive := s.line.masked.predictive || bit 0, audit := s.line.masked.audit || bit 1
        load := s.line.masked.load || bit 2, trailRequests := s.line.masked.trailRequests || bit 3 }
      let m := s.mode
      let drop (x : ChosenMode) : ChosenMode := if x = .predictive then .reactive else x
      let rewritten := { m with
        mode := if m.mode = .predictive then .reactive else m.mode
        target := if m.mode = .centring then drop m.target else m.target
        holdReturn := if m.mode = .hold then m.holdReturn.map drop else m.holdReturn
        saved := drop m.saved }
      let t1 := { t with line := { t.line with masked := after } }
      let t2 := if s.line.masked.predictive = false ∧ bit 0 = true then
          (if m.mode = .predictive then modeChanged .mask rewritten t1 else { t1 with mode := rewritten })
        else t1
      let t3 := if s.line.masked.audit = false ∧ bit 1 = true then
          { t2 with audit := { s.audit with armed := false, pending := none } } else t2
      let t4 := if s.line.masked.load = false ∧ bit 2 = true ∧ s.store.staged ≠ none then
          { t3 with store := { s.store with
            staged := none, interruptions := min 65535 (s.store.interruptions + 1) } } else t3
      ((∀ i, 4 ≤ i → i ≤ 7 → bit i = false) →
        exec (.featureMask port h args) s = .next (concludeRequest port h 21#8 args .done (.capability after) t4))
      ∧ (∀ i, 4 ≤ i → i ≤ 7 → bit i = true →
          exec (.featureMask port h args) s = .next (concludeRequest port h 21#8 args .badArg .empty t)))

/-- RESTART acts on every block in one action: the FAULTED reply to a pending HOLD, the MODE report when the mode was
not CENTRING, and its own reply, in this order; what it does not name is kept. -/
def Obligations.RestartActs : Prop :=
  ∀ (port : Port) (h : Header) (args : List Byte) (s : State), Admitted s port h 0 →
    let t := requestCounted port s
    let m := { s.mode with
      holdFlag := false, holdReturn := none, settle := 0, firstCause := none, further := 0, saved := .off
      ackSeen := false, odoSinceFault := false, mode := .centring, target := .off }
    let t1 := { t with
      queue := { s.queue with entries := [], lastOriginated := none, flushes := min 65535 (s.queue.flushes + 1) }
      demand := { s.demand with thetaB := 0, runCount := 0, latch := false, fadeCount := 0 }
      store := { s.store with staged := none }
      audit := { s.audit with armed := false, pending := none, valid := false } }
    let t2 := match s.holdReply with
      | none => t1
      | some p => sendReply p.port p.source p.tag 17#8 .done (.hold false .faulted) { t1 with holdReply := none }
    exec (.restart port h args) s = .next
      (concludeRequest port h 22#8 args .done .empty
        (if s.mode.mode = .centring then { t2 with mode := m } else modeChanged .restart m t2))

/-! ### Position, fixes and preview -/

/-- An ODOMETRY frame refreshes the record of the train, sets the lead role, restarts the watchdog, raises the
uncertainty and gives the mode controller its notice; by the kind of arrival it grows the distance since fix, flushes
the preview queue and asks for LINE_TURN. It is then forwarded out of the port that is not the upstream one. -/
def Obligations.OdometryActs : Prop :=
  ∀ (port : Port) (h : Header) (chainage : Word24) (speed : Word16) (direction : Byte) (rest : List Byte) (s : State),
    let v := min 9000 speed.toNat
    let dir : Direction := if direction.getLsbD 0 then .down else .up
    let t := onPort port (fun x => { x with received := min 65535 (x.received + 1) }) s
    let grown := min 16777215 (s.pos.sinceFix + ((chainage.toNat : Int) - s.pos.t0).natAbs)
    let flushed := { s.queue with entries := [], lastOriginated := none, flushes := min 65535 (s.queue.flushes + 1) }
    let taken (dist : Nat) (queue : PreviewQueue) : State := { t with
      line := { t.line with upstream := some port }
      pos := { s.pos with
        t0 := chainage.toNat, v := v, dir := dir, seen := true, lead := decide (h.hop = 0#8), watchdog := .running
        sinceFix := dist
        u := max s.pos.u (min 65535 (s.pos.uFix + (dist * s.params.driftPermille + 999) / 1000)) }
      clock := { s.clock with arrival := some s.clock.now }
      queue := queue
      mode := { s.mode with odoSinceFault := true, odoSpeed := v } }
    let passed (x : State) := Host.Outcome.next
      (onPort (otherPort port)
        (joinForward {
          h := { h with hop := BitVec.ofNat 8 (min 255 (h.hop.toNat + 1)) }
          body := .odometry chainage speed direction rest }) x)
    let run := exec (.odometry port h chainage speed direction rest) s
    s.held = false →
    (s.line.upstream = none → run = passed (taken s.pos.sinceFix s.queue))
    ∧ (s.line.upstream = some port → dir = s.pos.dir → run = passed (taken grown s.queue))
    ∧ (s.line.upstream = some port → dir ≠ s.pos.dir → run = passed (taken grown flushed))
    ∧ (s.line.upstream = some (otherPort port) → v = 0 → run = passed (taken grown flushed))
    ∧ (s.line.upstream = some (otherPort port) → 0 < v → run = passed (takeFault .lineTurn (taken grown flushed)))

/-- The expiry of the running watchdog makes it IDLE and asks for ODO_LOST, at its due instant, to which the clock is
brought (the model's choice, log entry 1). A fault asked for outside FAULT enters it, with its frames in the order of
R131; one asked for in FAULT is counted and reported, and changes no mode. A pending tag without a record, which no
run reaches, is dropped (the model's choice, log entry 15). -/
def Obligations.FaultsTaken : Prop :=
  ∀ (cause : FaultCause) (s : State),
    (∀ a, s.held = false → s.pos.watchdog = .running → s.clock.arrival = some a →
      exec .odoLost s = .next (takeFault .odoLost
        { s with
          clock := { s.clock with now := max s.clock.now (a + s.params.odoLostMs * 2000) }
          pos := { s.pos with watchdog := .idle } }))
    ∧ (s.mode.mode = .fault →
        let m := { s.mode with
          further := min 255 (s.mode.further + 1), faultsTaken := min 65535 (s.mode.faultsTaken + 1)
          ackSeen := if cause = .driveSilent then false else s.mode.ackSeen
          odoSinceFault := if cause = .odoLost then false else s.mode.odoSinceFault }
        takeFault cause s = sendReport
          (.fault {
            cause := cause, further := true, firstCause := s.mode.firstCause, furtherCount := m.further
            saved := s.mode.saved, holdFlag := s.mode.holdFlag, prevCommand := s.mode.prevCommand
            ackStatus := s.mode.ackStatus, odoSpeed := s.mode.odoSpeed })
          { s with mode := m })
    ∧ ∀ saved : ChosenMode,
        (s.mode.mode = chosenToMode saved ∨ s.mode.mode = .hold ∧ s.mode.holdReturn = some saved
          ∨ s.mode.mode = .centring ∧ s.mode.target = saved) →
        let m := { s.mode with
          mode := .fault, saved := saved, firstCause := some cause, further := 0, ackSeen := false
          odoSinceFault := false, holdReturn := none, faultsTaken := min 65535 (s.mode.faultsTaken + 1), settle := 0 }
        let t := { s with mode := m }
        let t1 := match s.holdReply with
          | none => t
          | some p => sendReply p.port p.source p.tag 17#8 .done (.hold false .faulted) { t with holdReply := none }
        let t2 := match s.audit.pending, s.audit.record with
          | none, _ => t1
          | some _, none => { t1 with audit := { s.audit with pending := none } }
          | some _, some r =>
            sendReport (.audit { r with completion := .fault })
              { t1 with audit := { s.audit with
                record := some { r with completion := .fault }, pending := none, valid := true } }
        takeFault cause s = sendReport
          (.mode {
            new := .fault, previous := s.mode.mode, reason := .fault, target := none, holdReturn := none
            saved := some saved, holdFlag := s.mode.holdFlag, prevCommand := s.mode.prevCommand })
          (sendReport
            (.fault {
              cause := cause, further := false, firstCause := some cause, furtherCount := 0, saved := saved
              holdFlag := s.mode.holdFlag, prevCommand := s.mode.prevCommand, ackStatus := s.mode.ackStatus
              odoSpeed := s.mode.odoSpeed })
            t2)

/-- A FIX frame is decided by a lead, which writes its verdict into the frame, and followed by a follower; it is
ignored from the downstream port. It is forwarded in every case. -/
def Obligations.FixActs : Prop :=
  ∀ (port : Port) (h : Header) (beacon passage : Word24) (accuracy verdict : Byte) (rest : List Byte) (s : State),
    let c : Int := (beacon.toNat : Int) - passage.toNat
    let acc := min 50 accuracy.toNat
    let t := onPort port (fun x => { x with received := min 65535 (x.received + 1) }) s
    let applied (rejections : Nat) : State := { t with
      pos := { s.pos with
        fixOffset := c, uFix := acc, sinceFix := 0, u := acc, rejections := rejections
        fixesApplied := min 65535 (s.pos.fixesApplied + 1) }
      queue := shiftQueue (c - s.pos.fixOffset) s.queue
      demand := { s.demand with latch := false, runCount := 0 } }
    let passed (verdict : Byte) (x : State) := Host.Outcome.next
      (onPort (otherPort port)
        (joinForward {
          h := { h with hop := BitVec.ofNat 8 (min 255 (h.hop.toNat + 1)) }
          body := .fix beacon passage accuracy verdict rest }) x)
    let run := exec (.fix port h beacon passage accuracy verdict rest) s
    s.held = false →
    (s.line.upstream = some (otherPort port) →
      run = passed verdict { t with pos := { s.pos with
        reverseIgnored := min 65535 (s.pos.reverseIgnored + 1) } })
    ∧ (s.line.upstream = none ∨ s.line.upstream = some port →
      (s.pos.lead = true → (c - s.pos.fixOffset).natAbs ≤ s.pos.u + acc + 10 ∨ s.pos.rejections = 2 →
        run = passed 1#8 (applied 0))
      ∧ (s.pos.lead = true → s.pos.u + acc + 10 < (c - s.pos.fixOffset).natAbs → s.pos.rejections < 2 →
        run = passed 2#8 { t with pos := { s.pos with rejections := s.pos.rejections + 1 } })
      ∧ (s.pos.lead = false → verdict = 1#8 → run = passed verdict (applied s.pos.rejections))
      ∧ (s.pos.lead = false → verdict = 2#8 → run = passed verdict t)
      ∧ (s.pos.lead = false → verdict ≠ 1#8 → verdict ≠ 2#8 →
        run = passed verdict { t with pos := { s.pos with
          unmarkedIgnored := min 65535 (s.pos.unmarkedIgnored + 1) } }))

/-- A shift moves every entry, and last originated, by its amount, and drops what would lie out of range, counting the
entries dropped. Nothing else of the queue changes. -/
def Obligations.QueueShifts : Prop :=
  ∀ (amount : Int) (q : PreviewQueue),
    let inRange (c : Int) : Bool := decide (0 ≤ c) && decide (c ≤ 16777215)
    let fields (shift : Int) (e : PreviewEntry) := ((e.chainage : Int) + shift, e.accel, e.valid, e.seq)
    let t := shiftQueue amount q
    t.entries.map (fields 0) = (q.entries.map (fields amount)).filter (fun x => inRange x.1)
      ∧ t.shiftLosses = min 65535
          (q.shiftLosses + (q.entries.filter fun e => !inRange ((e.chainage : Int) + amount)).length)
      ∧ (∀ c, t.lastOriginated = some c ↔
          ∃ b, q.lastOriginated = some b ∧ (c : Int) = b + amount ∧ inRange ((b : Int) + amount) = true)
      ∧ { t with entries := q.entries, lastOriginated := q.lastOriginated, shiftLosses := q.shiftLosses } = q

/-- A SAMPLE frame acted on is put to the arrival rule, which compares it with the newest entry in the direction of
travel; one not acted on is counted. It is forwarded in every case. That the other bits of its flags byte are ignored,
and that a sample at or behind the newest of 512 entries replaces it or is stale, are the model's choices (log entries
21 and 25). -/
def Obligations.SampleActs : Prop :=
  ∀ (port : Port) (h : Header) (chainage : Word24) (accel : Word16) (flags seq : Byte) (rest : List Byte) (s : State),
    let e : PreviewEntry := {
      chainage := chainage.toNat, accel := max (-5000) (min 5000 accel.toInt), valid := flags.getLsbD 0, seq := seq }
    let d : Int := match s.pos.dir with | .up => 1 | .down => -1
    let passed (q : PreviewQueue) := Host.Outcome.next
      (onPort (otherPort port)
        (joinForward {
          h := { h with hop := BitVec.ofNat 8 (min 255 (h.hop.toNat + 1)) }
          body := .sample chainage accel flags seq rest })
        { onPort port (fun x => { x with received := min 65535 (x.received + 1) }) s with queue := q })
    let run := exec (.sample port h chainage accel flags seq rest) s
    let q := s.queue
    s.held = false →
    (s.line.upstream ≠ some port ∨ s.pos.lead = true → run = passed { q with ignored := min 65535 (q.ignored + 1) })
    ∧ (s.line.upstream = some port → s.pos.lead = false →
      (q.entries = [] → run = passed { q with entries := [e], appended := min 65535 (q.appended + 1) })
      ∧ ∀ old n, q.entries = old ++ [n] →
        (0 < d * ((e.chainage : Int) - n.chainage) → q.entries.length < 512 →
          run = passed { q with
            entries := q.entries ++ [e], appended := min 65535 (q.appended + 1)
            seqGaps := if e.seq.toNat = (n.seq.toNat + 1) % 256 then q.seqGaps else min 65535 (q.seqGaps + 1) })
        ∧ (0 < d * ((e.chainage : Int) - n.chainage) → q.entries.length = 512 →
          run = passed { q with overruns := min 65535 (q.overruns + 1) })
        ∧ (e.chainage = n.chainage →
          run = passed { q with
            entries := old ++ [{ n with accel := e.accel, valid := e.valid, seq := e.seq }]
            replacements := min 65535 (q.replacements + 1) })
        ∧ (d * ((e.chainage : Int) - n.chainage) < 0 →
          run = passed { q with stale := min 65535 (q.stale + 1) }))

/-- A SENSE frame sets the last local sense, clamped; at a lead whose sample chainage b is a stride or more from the
last one originated it originates a sample, which goes to the lead's own queue and, as a SAMPLE frame, downstream. That
the other bits of a flags byte are ignored, and sent as 0, is the model's choice (log entry 21). -/
def Obligations.SenseActs : Prop :=
  ∀ (accel : Word16) (flags : Byte) (s : State),
    let a : Int := max (-5000) (min 5000 accel.toInt)
    let q := { s.queue with
      senseAccel := a, senseValid := flags.getLsbD 0
      senseClamps := if a = accel.toInt then s.queue.senseClamps else min 65535 (s.queue.senseClamps + 1) }
    let pa := positionQuery s
    let e : PreviewEntry := { chainage := pa.b, accel := pa.o * a, valid := flags.getLsbD 0, seq := s.queue.nextSeq }
    let originated := { q with
      lastOriginated := some pa.b, nextSeq := s.queue.nextSeq + 1#8
      originated := min 65535 (s.queue.originated + 1) }
    s.held = false →
    (s.pos.lead = false → exec (.sense accel flags) s = .next { s with queue := q })
    ∧ (∀ c, s.pos.lead = true → s.queue.lastOriginated = some c →
        ((pa.b : Int) - c).natAbs < s.params.strideDm → exec (.sense accel flags) s = .next { s with queue := q })
    ∧ ∀ up, s.pos.lead = true → s.line.upstream = some up →
        (∀ c, s.queue.lastOriginated = some c → s.params.strideDm ≤ ((pa.b : Int) - c).natAbs) →
        exec (.sense accel flags) s = .next
          (onPort (otherPort up)
            (joinOwn {
              h := { dest := 0#8, source := s.line.address.getD 0#8, level := 0#8, tag := 0#16, hop := 0#8 }
              body := .sample (BitVec.ofNat 24 pa.b) (BitVec.ofInt 16 (pa.o * a))
                (if flags.getLsbD 0 then 1#8 else 0#8) s.queue.nextSeq [] })
            { s with queue := arrive (dirFactor s.pos.dir) e originated })

/-- The answer to a position query: the car chainage extrapolated by the elapsed time, the points derived from it, and
whether the position is usable. The sums are saturated; only that of the car chainage sets RANGE. -/
def Obligations.PositionAnswered : Prop :=
  ∀ s : State,
    let sat (x : Int) : Nat := (max 0 (min 16777215 x)).toNat
    let e := match s.clock.arrival with
      | none => s.params.odoTimeout
      | some a => min s.params.odoTimeout ((s.clock.now - a) / 2000)
    let d : Int := if s.line.upstream = none then 1 else match s.pos.dir with | .up => 1 | .down => -1
    let offset : Int := if s.line.upstream = some .b then s.params.offsetB else s.params.offsetA
    let sum : Int := s.pos.t0 + s.pos.fixOffset - d * offset + d * roundDiv ((s.pos.v * e : Nat) : Int) 10000
    let preview := roundDiv ((s.pos.v * s.params.lagMs : Nat) : Int) 10000
    let pa := positionQuery s
    pa.car = sat sum ∧ pa.d = d ∧ pa.v = s.pos.v ∧ (pa.previewDm : Int) = preview
      ∧ pa.p = sat (pa.car + d * preview) ∧ pa.q = sat (pa.p + d * s.params.trimDm)
      ∧ pa.b = sat (pa.car + d * s.params.sensorLeadDm)
      ∧ pa.o = (if s.line.upstream = some .b then -1 else 1)
      ∧ (pa.range = true ↔ sum < 0 ∨ 16777215 < sum)
      ∧ (pa.stale = true ↔ s.pos.seen = false ∨ s.params.odoTimeout ≤ e)
      ∧ (pa.uExceeds = true ↔ s.params.uMax < s.pos.u)
      ∧ (pa.usable = true ↔ pa.stale = false ∧ pa.uExceeds = false ∧ pa.range = false)

/-- The reactive query on a queue that keeps the law of R78: retirement leaves of the entries at or behind q the
nearest one only, and every entry beyond q; the lookup then interpolates, holds within two strides, or answers GAP or
INVALID, counting the last two. -/
def Obligations.ReactiveAnswered : Prop :=
  ∀ (d : Int) (q stride : Nat) (x : PreviewQueue), d = 1 ∨ d = -1 → Increasing d x.entries →
    let gap (e : PreviewEntry) : Int := d * ((q : Int) - e.chainage)
    let r := reactiveQuery d q stride x
    let nearestBehind (e : PreviewEntry) : Prop := e ∈ x.entries ∧ 0 ≤ gap e
      ∧ ∀ e' ∈ x.entries, 0 ≤ gap e' → gap e ≤ gap e'
    let nearestBeyond (e : PreviewEntry) : Prop := e ∈ x.entries ∧ gap e < 0
      ∧ ∀ e' ∈ x.entries, gap e' < 0 → gap e' ≤ gap e
    Increasing d r.1.entries
    ∧ (∀ e, e ∈ r.1.entries ↔ e ∈ x.entries ∧ (gap e < 0 ∨ nearestBehind e))
    ∧ { r.1 with
          entries := x.entries, gapAnswers := x.gapAnswers, invalidAnswers := x.invalidAnswers } = x
    ∧ r.1.gapAnswers = (if r.2 = .gap then min 65535 (x.gapAnswers + 1) else x.gapAnswers)
    ∧ r.1.invalidAnswers = (if r.2 = .invalid then min 65535 (x.invalidAnswers + 1) else x.invalidAnswers)
    ∧ (∀ e1 e2, nearestBehind e1 → nearestBeyond e2 →
        r.2 = if e1.valid ∧ e2.valid then
            .interpolated
              (e1.accel + roundDiv ((e2.accel - e1.accel) * ((q : Int) - e1.chainage).natAbs)
                ((e2.chainage : Int) - e1.chainage).natAbs)
              e1.chainage e2.chainage
          else .invalid)
    ∧ (∀ e, nearestBehind e → (∀ e' ∈ x.entries, 0 ≤ gap e') →
        r.2 = if 2 * (stride : Int) < gap e then .gap
          else if e.valid then .held e.accel e.chainage else .invalid)
    ∧ ((∀ e ∈ x.entries, gap e < 0) → r.2 = .gap)

/-! ### The step and the drive -/

/-- A DRIVE-ACK that answers the outstanding DRIVE is taken: the drive port's items, then the mode controller's, then
the audit's. Any other is LATE, and changes only that count. -/
def Obligations.DriveAckActs : Prop :=
  ∀ (seq : Byte) (stroke : Word16) (status : Byte) (s : State),
    let run := exec (.driveAck seq stroke status) s
    let actual : Int := max (-9999) (min 9999 stroke.toInt)
    let angle := toAngle s.strokes actual
    let st : AckStatus := if status = 0#8 then .ok else if status = 1#8 then .endStop else .fault
    s.held = false →
    ((∀ x, s.drive.outstanding = some x → x.answered = false → x.seq ≠ seq) →
      run = .next { s with drive := { s.drive with late := min 65535 (s.drive.late + 1) } })
    ∧ ∀ x, s.drive.outstanding = some x → x.answered = false → x.seq = seq →
      let prev := if x.kind = .query ∧ s.mode.prevCommand = none then some angle else s.mode.prevCommand
      let m := { s.mode with ackSeen := true, ackStatus := some st, prevCommand := prev }
      let t := { s with
        mode := m
        drive := { s.drive with
          outstanding := some { x with answered := true }
          missCount := 0, acks := min 65535 (s.drive.acks + 1)
          clamps := if actual = stroke.toInt then s.drive.clamps else min 65535 (s.drive.clamps + 1)
          lastStroke := some actual, lastAngle := some angle, lastStatus := some st
          endStop := decide (st = .endStop)
          endStops := if st = .endStop then min 65535 (s.drive.endStops + 1) else s.drive.endStops
          faults := if st = .fault then min 65535 (s.drive.faults + 1) else s.drive.faults } }
      let out (u : State) := Host.Outcome.next (auditAnswer seq actual angle st u)
      let settled := ∃ c, s.mode.prevCommand = some c ∧ (angle - c).natAbs ≤ s.params.holdTol
      (st = .fault → run = out (takeFault .driveFault t))
      ∧ (st ≠ .fault → x.kind = .query → run = out t)
      ∧ (st ≠ .fault → x.kind ≠ .query → s.mode.mode ≠ .centring → s.holdReply = none → run = out t)
      ∧ (st ≠ .fault → x.kind ≠ .query → s.mode.mode = .centring → s.holdReply = none →
          (s.mode.prevCommand = some 0 → angle.natAbs ≤ s.params.holdTol →
            run = out (modeChanged .centred { m with mode := chosenToMode m.target } t))
          ∧ (s.mode.prevCommand ≠ some 0 ∨ s.params.holdTol < angle.natAbs → run = out t))
      ∧ ∀ p, st ≠ .fault → x.kind ≠ .query → s.mode.mode ≠ .centring → s.holdReply = some p →
          (settled → s.mode.settle = 0 → run = out { t with mode := { m with settle := 1 } })
          ∧ (settled → s.mode.settle = 1 →
              run = out (sendReply p.port p.source p.tag 17#8 .done (.hold false .settled)
                { t with mode := { m with settle := 0 }, holdReply := none }))
          ∧ (¬ settled → run = out { t with mode := { m with settle := 0 } })

/-- One step: the timer and the step number; the three queries at one instant; the summary; the command, moved by at
most the rate step; the miss judgement; exactly one DRIVE of that command, or a QUERY while no command is known; and
the DISAGREE latch. Whole: the DISAGREE report, when the run count reaches disagree_steps, then at the third miss in a
row the fault DRIVE_SILENT with its frames, and last the hand-over of the DRIVE to the audit with the step's summary.
That STEP brings the clock forward to its due instant, at which all its queries are made, is the model's choice (log
entry 1). -/
def Obligations.StepActs : Prop :=
  ∀ s : State, s.held = false →
    let now := max s.clock.now s.clock.stepDue
    let s1 := { s with
      clock := { s.clock with now := now, stepDue := now + s.params.stepMs * 2000 }
      audit := { s.audit with stepNumber := s.audit.stepNumber + 1#32 } }
    let pa := positionQuery s1
    let route := geometryQuery pa s1
    let reactive := reactiveQuery pa.d pa.q s.params.strideDm s.queue
    let g := stagesOf s.params s.mode.mode s.demand pa.v route.2 reactive.2
    let miss : Prop := ∃ x, s.drive.outstanding = some x ∧ x.answered = false
    let silent : Prop := miss ∧ 2 ≤ s.drive.missCount
    let rs : Nat := max 1 (s.params.rateMax * s.params.stepMs / 1000)
    ∃ t sum, exec .stepExpiry s = .next t ∧ t.demand.lastStep = some sum
      ∧ t.clock = s1.clock ∧ t.audit.stepNumber = s1.audit.stepNumber ∧ t.pos = s.pos ∧ t.params = s.params
      ∧ t.strokes = s.strokes ∧ t.store = s.store ∧ t.walker = route.1.walker ∧ t.look = route.1.look
      ∧ t.queue = reactive.1
      ∧ sum.mode = s.mode.mode ∧ sum.car = pa.car ∧ sum.v = pa.v ∧ sum.active = route.2.active
      ∧ sum.predictive = g.predictive ∧ sum.reactive = g.reactive ∧ sum.aP = g.aP ∧ sum.aR = g.aR ∧ sum.k = g.k
      ∧ sum.thetaP = g.thetaP ∧ sum.thetaR = g.thetaR ∧ sum.thetaB = g.thetaB ∧ sum.target = g.target
      ∧ sum.lEff = route.2.lEff ∧ sum.gated = g.gated ∧ sum.limited = g.limited ∧ sum.fading = g.fading
      ∧ sum.carTarget = pa.o * g.target ∧ (sum.restrictionUnknown = true ↔ route.2.outcome ≠ .known)
      ∧ t.demand.thetaB = g.thetaB ∧ t.demand.fadeCount = g.fade
      ∧ (s.mode.prevCommand = none → sum.command = none ∧ sum.rate = false)
      ∧ (∀ c, s.mode.prevCommand = some c → s.mode.mode = .hold → sum.command = some c)
      ∧ (∀ c, s.mode.prevCommand = some c → s.mode.mode ≠ .hold →
          if (sum.carTarget - c).natAbs ≤ rs then sum.command = some sum.carTarget ∧ sum.rate = false
          else sum.command = some (if c < sum.carTarget then c + rs else c - rs) ∧ sum.rate = true)
      ∧ t.mode.prevCommand = sum.command
      ∧ (miss → ¬ silent → t.mode = { s.mode with prevCommand := sum.command, settle := 0 })
      ∧ (¬ miss → t.mode = { s.mode with prevCommand := sum.command })
      ∧ (silent → t.mode.mode = .fault ∧ t.mode.faultsTaken = min 65535 (s.mode.faultsTaken + 1)
          ∧ (s.mode.mode ≠ .fault → t.mode.firstCause = some .driveSilent))
      ∧ (¬ silent → t.holdReply = s.holdReply)
      ∧ (let sent := { s.drive with
          outstanding := some {
            seq := s.drive.seq, answered := false
            kind := match sum.command with
              | some c => .move c (toStroke s.strokes s.drive.rounding c)
              | none => .query }
          seq := s.drive.seq + 1#8, sent := min 65535 (s.drive.sent + 1) }
        (¬ miss → t.drive = sent)
        ∧ (miss → ¬ silent → t.drive = { sent with
            missCount := s.drive.missCount + 1, misses := min 65535 (s.drive.misses + 1) })
        ∧ (silent → t.drive = { sent with
            missCount := 0, misses := min 65535 (s.drive.misses + 1)
            silences := min 65535 (s.drive.silences + 1) }))
      ∧ (if g.run ≠ 0 ∧ s.params.disagreeSteps ≤ g.run then
          t.demand.latch = true ∧ t.demand.runCount = 0
            ∧ t.demand.latchSettings = min 65535 (s.demand.latchSettings + 1)
        else t.demand.latch = s.demand.latch ∧ t.demand.runCount = g.run
          ∧ t.demand.latchSettings = s.demand.latchSettings)
      ∧ { t.line with portA := s.line.portA, portB := s.line.portB, reportTag := s.line.reportTag } = s.line
      ∧ (s.audit.armed = false → s.audit.pending = none → t.audit = s1.audit ∧ t.freeCount = s.freeCount)
      ∧ (let x : Drive := {
          seq := s.drive.seq, answered := false
          kind := match sum.command with
            | some c => .move c (toStroke s.strokes s.drive.rounding c)
            | none => .query }
        let reported : State :=
          if g.run ≠ 0 ∧ s.params.disagreeSteps ≤ g.run then
            sendReport
              (.disagree {
                thetaP := g.thetaP.getD 0, thetaR := g.thetaR.getD 0, run := g.run, car := pa.car
                active := route.2.active })
              s1
          else s1
        let w : State := { reported with
          walker := route.1.walker, look := route.1.look, queue := reactive.1, demand := t.demand
          mode := { s.mode with prevCommand := sum.command, settle := if miss then 0 else s.mode.settle } }
        (¬ silent → t = auditHandover sum x { w with drive := t.drive })
        ∧ (silent → t = auditHandover sum x { takeFault .driveSilent w with drive := t.drive }))

/-- The stages of a step: which sources are available, their angles, the blend, the fade, the disagreement, the speed
gate and the limit; in the modes that do not tilt every one of them rests. -/
def Obligations.StagesBlendAndLimit : Prop :=
  ∀ (p : Params) (m : Mode) (x : DemandUnit) (v : Nat) (ra : RouteAnswer) (re : ReactiveAnswer),
    let g := stagesOf p m x v ra re
    let angle (a : Int) : Int := roundDiv ((g.k : Int) * a * 5730) 980700
    let demand := if v < p.vMin then 0 else g.thetaB
    (m ≠ .reactive → m ≠ .predictive →
      g.predictive = .mode ∧ g.reactive = .mode ∧ g.aP = none ∧ g.aR = none ∧ g.thetaP = none ∧ g.thetaR = none
        ∧ g.thetaB = 0 ∧ g.fade = 0 ∧ g.run = 0 ∧ g.target = 0 ∧ g.gated = false ∧ g.limited = false
        ∧ g.fading = false)
    ∧ (m = .reactive ∨ m = .predictive →
      (∀ geo, ra.form = .onSection geo → g.k = geo.comp.getD p.compPct ∧ g.aP = some (max (-3000) (min 3000
        (roundDiv ((v : Int) ^ 2 * geo.kappa) 10000000 - roundDiv (9807 * geo.cant) 1500))))
      ∧ (ra.form = .unavailable ∨ ra.form = .noSection → g.k = p.compPct ∧ g.aP = none)
      ∧ (∀ a, (∃ c1 c2, re = .interpolated a c1 c2) ∨ (∃ c, re = .held a c) →
          g.aR = some (max (-3000) (min 3000 a)) ∧ g.reactive = .available)
      ∧ (re = .gap → g.aR = none ∧ g.reactive = .gap) ∧ (re = .invalid → g.aR = none ∧ g.reactive = .invalid)
      ∧ g.thetaP = g.aP.map angle ∧ g.thetaR = g.aR.map angle
      ∧ g.predictive = (if m = .reactive then .mode else if ra.form = .unavailable then .position
          else if ra.form = .noSection then .noSection else if x.latch then .disagree else .available)
      ∧ (∀ tp tr, g.predictive = .available → g.reactive = .available → g.thetaP = some tp → g.thetaR = some tr →
          g.thetaB = roundDiv ((p.wPred : Int) * tp + (100 - p.wPred) * tr) 100
          ∧ g.run = (if p.disagreeCdeg < (tp - tr).natAbs then x.runCount + 1 else 0))
      ∧ (∀ tp, g.predictive = .available → g.reactive ≠ .available → g.thetaP = some tp →
          g.thetaB = tp ∧ g.run = 0)
      ∧ (∀ tr, g.predictive ≠ .available → g.reactive = .available → g.thetaR = some tr →
          g.thetaB = tr ∧ g.run = 0)
      ∧ (g.predictive = .available ∨ g.reactive = .available → g.fade = 0 ∧ g.fading = false)
      ∧ (g.predictive ≠ .available → g.reactive ≠ .available →
          g.fading = true ∧ g.run = 0
          ∧ (x.fadeCount < p.holdSteps → g.thetaB = x.thetaB ∧ g.fade = x.fadeCount + 1)
          ∧ (p.holdSteps ≤ x.fadeCount → g.thetaB = 0 ∧ g.fade = x.fadeCount))
      ∧ (g.gated = true ↔ v < p.vMin)
      ∧ g.target = max (-(ra.lEff : Int)) (min ra.lEff demand)
      ∧ (g.limited = true ↔ g.target ≠ demand))

/-- The two stroke conversions, for a table that meets R147's conditions and a command in range: the stroke lies in the
segment's strokes; a table stroke converts to its own angle; and a command converted forward and back differs by at
most 50 / w + 1 under NEAREST and 100 / w + 1 under TRUNCATE, w being the width of its segment. -/
def Obligations.StrokesConvertBack : Prop :=
  ∀ (t : List Int) (m : Rounding) (theta : Int), StrokeLaw t → -800 ≤ theta → theta ≤ 800 →
    let i := min 15 ((theta + 800) / 100).toNat
    let w := strokeAt t (i + 1) - strokeAt t i
    let x := toStroke t m theta
    strokeAt t i ≤ x ∧ x ≤ strokeAt t (i + 1)
      ∧ w * (toAngle t x - theta).natAbs ≤ (match m with | .nearest => 50 | .truncate => 100) + w
      ∧ (∀ j, j ≤ 16 → toAngle t (strokeAt t j) = -800 + 100 * (j : Int))
      ∧ ∀ y : Int, -800 ≤ toAngle t y ∧ toAngle t y ≤ 800

/-- The route answer of a step. An unusable position and a null selector leave the walker alone. Otherwise the walk
stays in a section that holds p, or follows links, forward at most four and backward one, to the first section that
does, or loses the section with its cause and lost-at; the cursor, marked UNPLACED for a new section, a new direction
or a backward point, is then advanced. The answer carries the section active now, its type and geometry, and what the
search between the car chainage and r finds in it and, when r lies beyond it, in the next: the lowest restriction, of
equal ones the nearest, of those one of the active section; or the cause that leaves restrictions unknown. L_eff and
the lookahead items follow. -/
def Obligations.RouteAnswered : Prop :=
  ∀ (pa : PositionAnswer) (s : State), ActiveSectionLaw s →
    let t := (geometryQuery pa s).1
    let ra := (geometryQuery pa s).2
    let w := s.walker
    let c := s.store
    let heading : Direction := if 0 < pa.d then .up else .down
    let back (d : Descriptor) : Nat := if 0 < pa.d then d.nextDown else d.nextUp
    let moved : Prop := (∃ x, w.lastDir = some x ∧ x ≠ heading)
      ∨ ∃ x, w.lastPoint = some x ∧ pa.d * ((pa.p : Int) - x) < 0
    let stands (sel : Nat) (d : Descriptor) (cursor : Cursor) : Prop := t.walker = { w with
      active := sel, lastPoint := some pa.p, lastDir := some heading
      cursor := match d.kind with
        | .curveList b first count => advanceCursor (bankOf c b).slots pa.d pa.p first count cursor
        | _ => cursor }
    let lost (cause : NullCause) (sel : Nat) : Prop := t.walker = { w with
      active := 0, cursor := .unplaced, nullCause := cause, lostAt := sel, losses := min 65535 (w.losses + 1)
      lastPoint := none, lastDir := none }
    let r : Nat := (max 0 (min 16777215 ((pa.car : Int) + pa.d *
      ((pa.v * (match s.mode.prevCommand with | some x => x.natAbs | none => 800) + (10 * s.params.rateMax - 1))
        / (10 * s.params.rateMax) + pa.previewDm : Nat)))).toNat
    { t with walker := w, look := s.look } = s
    ∧ (pa.usable = false → t.walker = w ∧ ra.form = .unavailable ∧ ra.outcome = .unknown .position)
    ∧ (pa.usable = true → w.active = 0 → t.walker = w)
    ∧ (∀ d, pa.usable = true → w.active ≠ 0 → slotGet w.descs w.active = some d →
        (Inside d pa.p → (moved → stands w.active d .unplaced) ∧ (¬ moved → stands w.active d w.cursor))
        ∧ (Beyond d pa.d pa.p → ∀ n, n ≤ 3 →
            (∀ j, 1 ≤ j → j ≤ n → pathAhead w pa.d j ≠ 0
              ∧ ∃ x, Enters w c (pathAhead w pa.d j) x ∧ Beyond x pa.d pa.p) →
            let sel := pathAhead w pa.d (n + 1)
            (sel = 0 → lost .sectionLost (pathAhead w pa.d n))
            ∧ (∀ cause, sel ≠ 0 → EntryFails w c sel cause → lost (.entry cause) sel)
            ∧ ∀ x, sel ≠ 0 → Enters w c sel x → (Inside x pa.p → stands sel x .unplaced)
              ∧ (Behind x pa.d pa.p → lost .sectionLost sel) ∧ (n = 3 → Beyond x pa.d pa.p → lost .sectionLost sel))
        ∧ (Behind d pa.d pa.p →
            (back d = 0 → lost .sectionLost w.active)
            ∧ (∀ cause, back d ≠ 0 → EntryFails w c (back d) cause → lost (.entry cause) (back d))
            ∧ ∀ x, back d ≠ 0 → Enters w c (back d) x → (Inside x pa.p → stands (back d) x .unplaced)
              ∧ (¬ Inside x pa.p → lost .sectionLost (back d))))
    ∧ (pa.usable = true → t.walker.active = 0 → ra.form = .noSection ∧ ra.outcome = .unknown .noSection)
    ∧ (ra.form = .unavailable ∨ ra.form = .noSection → ra.active = 0 ∧ ra.kind = none)
    ∧ (pa.usable = true → t.walker.active ≠ 0 → ∃ d,
        slotGet w.descs t.walker.active = some d ∧ KindUsable c d.kind ∧ Inside d pa.p
        ∧ ra.active = t.walker.active ∧ ra.kind = some d.kind
        ∧ ra.form = .onSection (trainGeometry pa.d (sectionGeometry c t.walker.cursor d pa.p))
        ∧ (let next : Nat := if 0 < pa.d then d.nextUp else d.nextDown
          let far : Prop := Beyond d pa.d r
          let found (x : RestrictionSource) (v n : Nat) : Prop :=
            Contributes c t.walker.active d pa.d pa.car r x v n
              ∨ (far ∧ ∃ d', Enters w c next d' ∧ Contributes c next d' pa.d pa.car r x v n)
          (far → next = 0 → ra.outcome = .unknown .noNext)
          ∧ (∀ cause, far → next ≠ 0 → EntryFails w c next cause → ra.outcome = .unknown (.entry cause))
          ∧ (¬ far ∨ (next ≠ 0 ∧ ∃ d', Enters w c next d') → ra.outcome = .known
            ∧ ((ra.lowest = none ∧ ra.source = none ∧ ∀ x v n, ¬ found x v n)
              ∨ ∃ x v n, ra.lowest = some v ∧ ra.source = some x ∧ found x v n
                ∧ ∀ x' v' n', found x' v' n' → v < v' ∨ (v = v' ∧ (n < n'
                  ∨ (n = n' ∧ (x'.selector = t.walker.active → x.selector = t.walker.active))))))))
    ∧ (ra.outcome ≠ .known → ra.lowest = none ∧ ra.source = none)
    ∧ ra.lEff = (if ra.outcome ≠ .known then min s.params.tiltLimit s.params.reducedLimit
        else match ra.lowest with | none => s.params.tiltLimit | some x => min s.params.tiltLimit x)
    ∧ t.look.outcome = ra.outcome ∧ t.look.lowest = ra.lowest ∧ t.look.source = ra.source ∧ t.look.lEff = ra.lEff
    ∧ t.look.failures = (match ra.outcome with
        | .unknown .noNext => min 65535 (s.look.failures + 1)
        | .unknown (.entry _) => min 65535 (s.look.failures + 1)
        | _ => s.look.failures)

/-- The records of a section. The record cursor is placed by search at the lowest record whose end is above p, or
travelling DOWN the highest whose start is at most p; from AT i it moves on to the nearest such record ahead; else it
is EXHAUSTED. When the cursor's record holds p, it gives curvature and cant by its transitions and body, times the
direction factor; everywhere else both are 0. -/
def Obligations.CursorFindsRecord : Prop :=
  (∀ (m : List (Nat × CurveRecord)) (p first count : Nat),
    let above (i : Nat) : Prop := ∃ r, slotGet m i = some r ∧ p < r.start + r.entry + r.body + r.exit
    let atMost (i : Nat) : Prop := ∃ r, slotGet m i = some r ∧ r.start ≤ p
    let up := advanceCursor m 1 p first count
    let down := advanceCursor m (-1) p first count
    (∀ i, up .unplaced = .atRecord i ↔
      first ≤ i ∧ i < first + count ∧ above i ∧ ∀ j, first ≤ j → j < i → ¬ above j)
    ∧ (∀ i, down .unplaced = .atRecord i ↔
      first ≤ i ∧ i < first + count ∧ atMost i ∧ ∀ j, i < j → j < first + count → ¬ atMost j)
    ∧ up .exhausted = .exhausted ∧ down .exhausted = .exhausted
    ∧ (∀ k i, first ≤ k → k < first + count →
      (up (.atRecord k) = .atRecord i ↔ k ≤ i ∧ i < first + count ∧ above i ∧ ∀ j, k ≤ j → j < i → ¬ above j)
      ∧ (down (.atRecord k) = .atRecord i ↔ first ≤ i ∧ i ≤ k ∧ atMost i ∧ ∀ j, i < j → j ≤ k → ¬ atMost j))
    ∧ ∀ c, ((∃ i, up c = .atRecord i) ∨ up c = .exhausted) ∧ ((∃ i, down c = .atRecord i) ∨ down c = .exhausted))
  ∧ ∀ (c : CurveStore) (cursor : Cursor) (d : Descriptor) (dir : Int) (p : Nat),
    let g := trainGeometry dir (sectionGeometry c cursor d p)
    let stop (r : CurveRecord) : Nat := r.start + r.entry + r.body + r.exit
    let reads (i : Nat) (r : CurveRecord) : Prop := ∃ b first count, d.kind = .curveList b first count
      ∧ cursor = .atRecord i ∧ slotGet (bankOf c b).slots i = some r ∧ r.start ≤ p ∧ p < stop r
    (∀ i r, reads i r →
      let value (x : Int) : Int :=
        if p < r.start + r.entry then Int.tdiv (x * ((p : Int) - r.start)) r.entry
        else if p < r.start + r.entry + r.body then x
        else Int.tdiv (x * ((stop r : Int) - p)) r.exit
      g = { kappa := dir * value r.kappa, cant := dir * value r.cant, comp := r.comp, record := some i })
    ∧ ((∀ i r, ¬ reads i r) → g = { kappa := 0, cant := 0, comp := none, record := none })
end

