-- ==== Sys2Proof/Laws/Check.lean ====
section
/-! SUPPORT. The bytes the part lays out pass the judgement of R175. -/

namespace Sys2Proof.Machine

/-- A string with its own check sequence passes the check (R175). -/
theorem checkGood_withCheck (l : List Byte) : checkGood (withCheck l) = true := by
  simp [checkGood, withCheck, bytes16]
/-- A frame laid out with a payload of at most 96 bytes is good exactly when its kind allows the length (R175). -/
theorem lineFrameGood_lineBytes (kind : Byte) (h : Header) (payload : List Byte) (hp : payload.length ≤ 96) :
    lineFrameGood (lineBytes kind h payload) = decide (leastPayload kind ≤ payload.length) := by
  have hc := checkGood_withCheck ([kind, h.dest, h.source, h.level] ++ bytes16 h.tag
    ++ [h.hop, BitVec.ofNat 8 payload.length] ++ payload)
  have hn : payload.length % 256 = payload.length := by omega
  simp only [lineBytes, lineFrameGood]
  rw [hc]
  simp [withCheck, bytes16, hn, hp]
  omega

end Sys2Proof.Machine
end

