-- ==== Sys2Proof/Laws/State.lean ====
section
/-! SUPPORT. What each shared update of the state leaves alone: one lemma per field per update, true by `rfl`. -/

namespace Sys2Proof.Machine

/-! ### `unlessHeld` -/

/-- Out of device reset a command acts. -/
theorem unlessHeld_awake {s : State} (h : s.held = false) (f : State → State) : unlessHeld f s = .next (f s) := by
  simp [unlessHeld, h]

/-- In device reset it does not (R176). -/
theorem unlessHeld_held {s : State} (h : s.held = true) (f : State → State) : unlessHeld f s = .next s := by
  simp [unlessHeld, h]

/-! ### `onPort` -/

@[simp] theorem onPort_clock (p : Port) (f : PortState → PortState) (s : State) :
    (onPort p f s).clock = s.clock := rfl
@[simp] theorem onPort_pos (p : Port) (f : PortState → PortState) (s : State) :
    (onPort p f s).pos = s.pos := rfl
@[simp] theorem onPort_params (p : Port) (f : PortState → PortState) (s : State) :
    (onPort p f s).params = s.params := rfl
@[simp] theorem onPort_walker (p : Port) (f : PortState → PortState) (s : State) :
    (onPort p f s).walker = s.walker := rfl
@[simp] theorem onPort_look (p : Port) (f : PortState → PortState) (s : State) :
    (onPort p f s).look = s.look := rfl
@[simp] theorem onPort_store (p : Port) (f : PortState → PortState) (s : State) :
    (onPort p f s).store = s.store := rfl
@[simp] theorem onPort_queue (p : Port) (f : PortState → PortState) (s : State) :
    (onPort p f s).queue = s.queue := rfl
@[simp] theorem onPort_demand (p : Port) (f : PortState → PortState) (s : State) :
    (onPort p f s).demand = s.demand := rfl
@[simp] theorem onPort_mode (p : Port) (f : PortState → PortState) (s : State) :
    (onPort p f s).mode = s.mode := rfl
@[simp] theorem onPort_holdReply (p : Port) (f : PortState → PortState) (s : State) :
    (onPort p f s).holdReply = s.holdReply := rfl
@[simp] theorem onPort_drive (p : Port) (f : PortState → PortState) (s : State) :
    (onPort p f s).drive = s.drive := rfl
@[simp] theorem onPort_strokes (p : Port) (f : PortState → PortState) (s : State) :
    (onPort p f s).strokes = s.strokes := rfl
@[simp] theorem onPort_audit (p : Port) (f : PortState → PortState) (s : State) :
    (onPort p f s).audit = s.audit := rfl
@[simp] theorem onPort_freeCount (p : Port) (f : PortState → PortState) (s : State) :
    (onPort p f s).freeCount = s.freeCount := rfl
@[simp] theorem onPort_pending (p : Port) (f : PortState → PortState) (s : State) :
    (onPort p f s).pending = s.pending := rfl
@[simp] theorem onPort_held (p : Port) (f : PortState → PortState) (s : State) :
    (onPort p f s).held = s.held := rfl

/-! ### `forward` -/

@[simp] theorem forward_clock (p : Port) (h : Header) (b : Body) (s : State) :
    (forward p h b s).clock = s.clock := rfl
@[simp] theorem forward_pos (p : Port) (h : Header) (b : Body) (s : State) :
    (forward p h b s).pos = s.pos := rfl
@[simp] theorem forward_params (p : Port) (h : Header) (b : Body) (s : State) :
    (forward p h b s).params = s.params := rfl
@[simp] theorem forward_walker (p : Port) (h : Header) (b : Body) (s : State) :
    (forward p h b s).walker = s.walker := rfl
@[simp] theorem forward_look (p : Port) (h : Header) (b : Body) (s : State) :
    (forward p h b s).look = s.look := rfl
@[simp] theorem forward_store (p : Port) (h : Header) (b : Body) (s : State) :
    (forward p h b s).store = s.store := rfl
@[simp] theorem forward_queue (p : Port) (h : Header) (b : Body) (s : State) :
    (forward p h b s).queue = s.queue := rfl
@[simp] theorem forward_demand (p : Port) (h : Header) (b : Body) (s : State) :
    (forward p h b s).demand = s.demand := rfl
@[simp] theorem forward_mode (p : Port) (h : Header) (b : Body) (s : State) :
    (forward p h b s).mode = s.mode := rfl
@[simp] theorem forward_holdReply (p : Port) (h : Header) (b : Body) (s : State) :
    (forward p h b s).holdReply = s.holdReply := rfl
@[simp] theorem forward_drive (p : Port) (h : Header) (b : Body) (s : State) :
    (forward p h b s).drive = s.drive := rfl
@[simp] theorem forward_strokes (p : Port) (h : Header) (b : Body) (s : State) :
    (forward p h b s).strokes = s.strokes := rfl
@[simp] theorem forward_audit (p : Port) (h : Header) (b : Body) (s : State) :
    (forward p h b s).audit = s.audit := rfl
@[simp] theorem forward_freeCount (p : Port) (h : Header) (b : Body) (s : State) :
    (forward p h b s).freeCount = s.freeCount := rfl
@[simp] theorem forward_pending (p : Port) (h : Header) (b : Body) (s : State) :
    (forward p h b s).pending = s.pending := rfl
@[simp] theorem forward_held (p : Port) (h : Header) (b : Body) (s : State) :
    (forward p h b s).held = s.held := rfl

/-! ### `countReceived` -/

@[simp] theorem countReceived_clock (p : Port) (s : State) :
    (countReceived p s).clock = s.clock := rfl
@[simp] theorem countReceived_pos (p : Port) (s : State) :
    (countReceived p s).pos = s.pos := rfl
@[simp] theorem countReceived_params (p : Port) (s : State) :
    (countReceived p s).params = s.params := rfl
@[simp] theorem countReceived_walker (p : Port) (s : State) :
    (countReceived p s).walker = s.walker := rfl
@[simp] theorem countReceived_look (p : Port) (s : State) :
    (countReceived p s).look = s.look := rfl
@[simp] theorem countReceived_store (p : Port) (s : State) :
    (countReceived p s).store = s.store := rfl
@[simp] theorem countReceived_queue (p : Port) (s : State) :
    (countReceived p s).queue = s.queue := rfl
@[simp] theorem countReceived_demand (p : Port) (s : State) :
    (countReceived p s).demand = s.demand := rfl
@[simp] theorem countReceived_mode (p : Port) (s : State) :
    (countReceived p s).mode = s.mode := rfl
@[simp] theorem countReceived_holdReply (p : Port) (s : State) :
    (countReceived p s).holdReply = s.holdReply := rfl
@[simp] theorem countReceived_drive (p : Port) (s : State) :
    (countReceived p s).drive = s.drive := rfl
@[simp] theorem countReceived_strokes (p : Port) (s : State) :
    (countReceived p s).strokes = s.strokes := rfl
@[simp] theorem countReceived_audit (p : Port) (s : State) :
    (countReceived p s).audit = s.audit := rfl
@[simp] theorem countReceived_freeCount (p : Port) (s : State) :
    (countReceived p s).freeCount = s.freeCount := rfl
@[simp] theorem countReceived_pending (p : Port) (s : State) :
    (countReceived p s).pending = s.pending := rfl
@[simp] theorem countReceived_held (p : Port) (s : State) :
    (countReceived p s).held = s.held := rfl

/-! ### `nextReportTag` -/

@[simp] theorem nextReportTag_clock (s : State) :
    (nextReportTag s).clock = s.clock := rfl
@[simp] theorem nextReportTag_pos (s : State) :
    (nextReportTag s).pos = s.pos := rfl
@[simp] theorem nextReportTag_params (s : State) :
    (nextReportTag s).params = s.params := rfl
@[simp] theorem nextReportTag_walker (s : State) :
    (nextReportTag s).walker = s.walker := rfl
@[simp] theorem nextReportTag_look (s : State) :
    (nextReportTag s).look = s.look := rfl
@[simp] theorem nextReportTag_store (s : State) :
    (nextReportTag s).store = s.store := rfl
@[simp] theorem nextReportTag_queue (s : State) :
    (nextReportTag s).queue = s.queue := rfl
@[simp] theorem nextReportTag_demand (s : State) :
    (nextReportTag s).demand = s.demand := rfl
@[simp] theorem nextReportTag_mode (s : State) :
    (nextReportTag s).mode = s.mode := rfl
@[simp] theorem nextReportTag_holdReply (s : State) :
    (nextReportTag s).holdReply = s.holdReply := rfl
@[simp] theorem nextReportTag_drive (s : State) :
    (nextReportTag s).drive = s.drive := rfl
@[simp] theorem nextReportTag_strokes (s : State) :
    (nextReportTag s).strokes = s.strokes := rfl
@[simp] theorem nextReportTag_audit (s : State) :
    (nextReportTag s).audit = s.audit := rfl
@[simp] theorem nextReportTag_freeCount (s : State) :
    (nextReportTag s).freeCount = s.freeCount := rfl
@[simp] theorem nextReportTag_pending (s : State) :
    (nextReportTag s).pending = s.pending := rfl
@[simp] theorem nextReportTag_held (s : State) :
    (nextReportTag s).held = s.held := rfl

/-! ### `sendReply` -/

@[simp] theorem sendReply_clock (p : Port) (src : Byte) (tag : Word16) (code : Byte) (r : ResultCode) (x : ReplyPayload) (s : State) :
    (sendReply p src tag code r x s).clock = s.clock := rfl
@[simp] theorem sendReply_pos (p : Port) (src : Byte) (tag : Word16) (code : Byte) (r : ResultCode) (x : ReplyPayload) (s : State) :
    (sendReply p src tag code r x s).pos = s.pos := rfl
@[simp] theorem sendReply_params (p : Port) (src : Byte) (tag : Word16) (code : Byte) (r : ResultCode) (x : ReplyPayload) (s : State) :
    (sendReply p src tag code r x s).params = s.params := rfl
@[simp] theorem sendReply_walker (p : Port) (src : Byte) (tag : Word16) (code : Byte) (r : ResultCode) (x : ReplyPayload) (s : State) :
    (sendReply p src tag code r x s).walker = s.walker := rfl
@[simp] theorem sendReply_look (p : Port) (src : Byte) (tag : Word16) (code : Byte) (r : ResultCode) (x : ReplyPayload) (s : State) :
    (sendReply p src tag code r x s).look = s.look := rfl
@[simp] theorem sendReply_store (p : Port) (src : Byte) (tag : Word16) (code : Byte) (r : ResultCode) (x : ReplyPayload) (s : State) :
    (sendReply p src tag code r x s).store = s.store := rfl
@[simp] theorem sendReply_queue (p : Port) (src : Byte) (tag : Word16) (code : Byte) (r : ResultCode) (x : ReplyPayload) (s : State) :
    (sendReply p src tag code r x s).queue = s.queue := rfl
@[simp] theorem sendReply_demand (p : Port) (src : Byte) (tag : Word16) (code : Byte) (r : ResultCode) (x : ReplyPayload) (s : State) :
    (sendReply p src tag code r x s).demand = s.demand := rfl
@[simp] theorem sendReply_mode (p : Port) (src : Byte) (tag : Word16) (code : Byte) (r : ResultCode) (x : ReplyPayload) (s : State) :
    (sendReply p src tag code r x s).mode = s.mode := rfl
@[simp] theorem sendReply_holdReply (p : Port) (src : Byte) (tag : Word16) (code : Byte) (r : ResultCode) (x : ReplyPayload) (s : State) :
    (sendReply p src tag code r x s).holdReply = s.holdReply := rfl
@[simp] theorem sendReply_drive (p : Port) (src : Byte) (tag : Word16) (code : Byte) (r : ResultCode) (x : ReplyPayload) (s : State) :
    (sendReply p src tag code r x s).drive = s.drive := rfl
@[simp] theorem sendReply_strokes (p : Port) (src : Byte) (tag : Word16) (code : Byte) (r : ResultCode) (x : ReplyPayload) (s : State) :
    (sendReply p src tag code r x s).strokes = s.strokes := rfl
@[simp] theorem sendReply_audit (p : Port) (src : Byte) (tag : Word16) (code : Byte) (r : ResultCode) (x : ReplyPayload) (s : State) :
    (sendReply p src tag code r x s).audit = s.audit := rfl
@[simp] theorem sendReply_freeCount (p : Port) (src : Byte) (tag : Word16) (code : Byte) (r : ResultCode) (x : ReplyPayload) (s : State) :
    (sendReply p src tag code r x s).freeCount = s.freeCount := rfl
@[simp] theorem sendReply_pending (p : Port) (src : Byte) (tag : Word16) (code : Byte) (r : ResultCode) (x : ReplyPayload) (s : State) :
    (sendReply p src tag code r x s).pending = s.pending := rfl
@[simp] theorem sendReply_held (p : Port) (src : Byte) (tag : Word16) (code : Byte) (r : ResultCode) (x : ReplyPayload) (s : State) :
    (sendReply p src tag code r x s).held = s.held := rfl

/-! ### `sendReport` -/

@[simp] theorem sendReport_clock (r : Report) (s : State) :
    (sendReport r s).clock = s.clock := by unfold sendReport; split <;> rfl
@[simp] theorem sendReport_pos (r : Report) (s : State) :
    (sendReport r s).pos = s.pos := by unfold sendReport; split <;> rfl
@[simp] theorem sendReport_params (r : Report) (s : State) :
    (sendReport r s).params = s.params := by unfold sendReport; split <;> rfl
@[simp] theorem sendReport_walker (r : Report) (s : State) :
    (sendReport r s).walker = s.walker := by unfold sendReport; split <;> rfl
@[simp] theorem sendReport_look (r : Report) (s : State) :
    (sendReport r s).look = s.look := by unfold sendReport; split <;> rfl
@[simp] theorem sendReport_store (r : Report) (s : State) :
    (sendReport r s).store = s.store := by unfold sendReport; split <;> rfl
@[simp] theorem sendReport_queue (r : Report) (s : State) :
    (sendReport r s).queue = s.queue := by unfold sendReport; split <;> rfl
@[simp] theorem sendReport_demand (r : Report) (s : State) :
    (sendReport r s).demand = s.demand := by unfold sendReport; split <;> rfl
@[simp] theorem sendReport_mode (r : Report) (s : State) :
    (sendReport r s).mode = s.mode := by unfold sendReport; split <;> rfl
@[simp] theorem sendReport_holdReply (r : Report) (s : State) :
    (sendReport r s).holdReply = s.holdReply := by unfold sendReport; split <;> rfl
@[simp] theorem sendReport_drive (r : Report) (s : State) :
    (sendReport r s).drive = s.drive := by unfold sendReport; split <;> rfl
@[simp] theorem sendReport_strokes (r : Report) (s : State) :
    (sendReport r s).strokes = s.strokes := by unfold sendReport; split <;> rfl
@[simp] theorem sendReport_audit (r : Report) (s : State) :
    (sendReport r s).audit = s.audit := by unfold sendReport; split <;> rfl
@[simp] theorem sendReport_freeCount (r : Report) (s : State) :
    (sendReport r s).freeCount = s.freeCount := by unfold sendReport; split <;> rfl
@[simp] theorem sendReport_pending (r : Report) (s : State) :
    (sendReport r s).pending = s.pending := by unfold sendReport; split <;> rfl
@[simp] theorem sendReport_held (r : Report) (s : State) :
    (sendReport r s).held = s.held := by unfold sendReport; split <;> rfl

/-! ### `clockTo` -/

@[simp] theorem clockTo_line (t : Nat) (s : State) :
    (clockTo t s).line = s.line := rfl
@[simp] theorem clockTo_pos (t : Nat) (s : State) :
    (clockTo t s).pos = s.pos := rfl
@[simp] theorem clockTo_params (t : Nat) (s : State) :
    (clockTo t s).params = s.params := rfl
@[simp] theorem clockTo_walker (t : Nat) (s : State) :
    (clockTo t s).walker = s.walker := rfl
@[simp] theorem clockTo_look (t : Nat) (s : State) :
    (clockTo t s).look = s.look := rfl
@[simp] theorem clockTo_store (t : Nat) (s : State) :
    (clockTo t s).store = s.store := rfl
@[simp] theorem clockTo_queue (t : Nat) (s : State) :
    (clockTo t s).queue = s.queue := rfl
@[simp] theorem clockTo_demand (t : Nat) (s : State) :
    (clockTo t s).demand = s.demand := rfl
@[simp] theorem clockTo_mode (t : Nat) (s : State) :
    (clockTo t s).mode = s.mode := rfl
@[simp] theorem clockTo_holdReply (t : Nat) (s : State) :
    (clockTo t s).holdReply = s.holdReply := rfl
@[simp] theorem clockTo_drive (t : Nat) (s : State) :
    (clockTo t s).drive = s.drive := rfl
@[simp] theorem clockTo_strokes (t : Nat) (s : State) :
    (clockTo t s).strokes = s.strokes := rfl
@[simp] theorem clockTo_audit (t : Nat) (s : State) :
    (clockTo t s).audit = s.audit := rfl
@[simp] theorem clockTo_freeCount (t : Nat) (s : State) :
    (clockTo t s).freeCount = s.freeCount := rfl
@[simp] theorem clockTo_pending (t : Nat) (s : State) :
    (clockTo t s).pending = s.pending := rfl
@[simp] theorem clockTo_held (t : Nat) (s : State) :
    (clockTo t s).held = s.held := rfl

/-! ### `noteMiss` -/

@[simp] theorem noteMiss_clock (s : State) :
    (noteMiss s).clock = s.clock := rfl
@[simp] theorem noteMiss_line (s : State) :
    (noteMiss s).line = s.line := rfl
@[simp] theorem noteMiss_pos (s : State) :
    (noteMiss s).pos = s.pos := rfl
@[simp] theorem noteMiss_params (s : State) :
    (noteMiss s).params = s.params := rfl
@[simp] theorem noteMiss_walker (s : State) :
    (noteMiss s).walker = s.walker := rfl
@[simp] theorem noteMiss_look (s : State) :
    (noteMiss s).look = s.look := rfl
@[simp] theorem noteMiss_store (s : State) :
    (noteMiss s).store = s.store := rfl
@[simp] theorem noteMiss_queue (s : State) :
    (noteMiss s).queue = s.queue := rfl
@[simp] theorem noteMiss_demand (s : State) :
    (noteMiss s).demand = s.demand := rfl
@[simp] theorem noteMiss_holdReply (s : State) :
    (noteMiss s).holdReply = s.holdReply := rfl
@[simp] theorem noteMiss_drive (s : State) :
    (noteMiss s).drive = s.drive := rfl
@[simp] theorem noteMiss_strokes (s : State) :
    (noteMiss s).strokes = s.strokes := rfl
@[simp] theorem noteMiss_audit (s : State) :
    (noteMiss s).audit = s.audit := rfl
@[simp] theorem noteMiss_freeCount (s : State) :
    (noteMiss s).freeCount = s.freeCount := rfl
@[simp] theorem noteMiss_pending (s : State) :
    (noteMiss s).pending = s.pending := rfl
@[simp] theorem noteMiss_held (s : State) :
    (noteMiss s).held = s.held := rfl

/-! ### `odometryNotice` -/

@[simp] theorem odometryNotice_clock (v : Nat) (s : State) :
    (odometryNotice v s).clock = s.clock := rfl
@[simp] theorem odometryNotice_line (v : Nat) (s : State) :
    (odometryNotice v s).line = s.line := rfl
@[simp] theorem odometryNotice_pos (v : Nat) (s : State) :
    (odometryNotice v s).pos = s.pos := rfl
@[simp] theorem odometryNotice_params (v : Nat) (s : State) :
    (odometryNotice v s).params = s.params := rfl
@[simp] theorem odometryNotice_walker (v : Nat) (s : State) :
    (odometryNotice v s).walker = s.walker := rfl
@[simp] theorem odometryNotice_look (v : Nat) (s : State) :
    (odometryNotice v s).look = s.look := rfl
@[simp] theorem odometryNotice_store (v : Nat) (s : State) :
    (odometryNotice v s).store = s.store := rfl
@[simp] theorem odometryNotice_queue (v : Nat) (s : State) :
    (odometryNotice v s).queue = s.queue := rfl
@[simp] theorem odometryNotice_demand (v : Nat) (s : State) :
    (odometryNotice v s).demand = s.demand := rfl
@[simp] theorem odometryNotice_holdReply (v : Nat) (s : State) :
    (odometryNotice v s).holdReply = s.holdReply := rfl
@[simp] theorem odometryNotice_drive (v : Nat) (s : State) :
    (odometryNotice v s).drive = s.drive := rfl
@[simp] theorem odometryNotice_strokes (v : Nat) (s : State) :
    (odometryNotice v s).strokes = s.strokes := rfl
@[simp] theorem odometryNotice_audit (v : Nat) (s : State) :
    (odometryNotice v s).audit = s.audit := rfl
@[simp] theorem odometryNotice_freeCount (v : Nat) (s : State) :
    (odometryNotice v s).freeCount = s.freeCount := rfl
@[simp] theorem odometryNotice_pending (v : Nat) (s : State) :
    (odometryNotice v s).pending = s.pending := rfl
@[simp] theorem odometryNotice_held (v : Nat) (s : State) :
    (odometryNotice v s).held = s.held := rfl

/-! ### `maskAudit` -/

@[simp] theorem maskAudit_clock (s : State) :
    (maskAudit s).clock = s.clock := rfl
@[simp] theorem maskAudit_line (s : State) :
    (maskAudit s).line = s.line := rfl
@[simp] theorem maskAudit_pos (s : State) :
    (maskAudit s).pos = s.pos := rfl
@[simp] theorem maskAudit_params (s : State) :
    (maskAudit s).params = s.params := rfl
@[simp] theorem maskAudit_walker (s : State) :
    (maskAudit s).walker = s.walker := rfl
@[simp] theorem maskAudit_look (s : State) :
    (maskAudit s).look = s.look := rfl
@[simp] theorem maskAudit_store (s : State) :
    (maskAudit s).store = s.store := rfl
@[simp] theorem maskAudit_queue (s : State) :
    (maskAudit s).queue = s.queue := rfl
@[simp] theorem maskAudit_demand (s : State) :
    (maskAudit s).demand = s.demand := rfl
@[simp] theorem maskAudit_mode (s : State) :
    (maskAudit s).mode = s.mode := rfl
@[simp] theorem maskAudit_holdReply (s : State) :
    (maskAudit s).holdReply = s.holdReply := rfl
@[simp] theorem maskAudit_drive (s : State) :
    (maskAudit s).drive = s.drive := rfl
@[simp] theorem maskAudit_strokes (s : State) :
    (maskAudit s).strokes = s.strokes := rfl
@[simp] theorem maskAudit_freeCount (s : State) :
    (maskAudit s).freeCount = s.freeCount := rfl
@[simp] theorem maskAudit_pending (s : State) :
    (maskAudit s).pending = s.pending := rfl
@[simp] theorem maskAudit_held (s : State) :
    (maskAudit s).held = s.held := rfl

/-! ### `restartAudit` -/

@[simp] theorem restartAudit_clock (s : State) :
    (restartAudit s).clock = s.clock := rfl
@[simp] theorem restartAudit_line (s : State) :
    (restartAudit s).line = s.line := rfl
@[simp] theorem restartAudit_pos (s : State) :
    (restartAudit s).pos = s.pos := rfl
@[simp] theorem restartAudit_params (s : State) :
    (restartAudit s).params = s.params := rfl
@[simp] theorem restartAudit_walker (s : State) :
    (restartAudit s).walker = s.walker := rfl
@[simp] theorem restartAudit_look (s : State) :
    (restartAudit s).look = s.look := rfl
@[simp] theorem restartAudit_store (s : State) :
    (restartAudit s).store = s.store := rfl
@[simp] theorem restartAudit_queue (s : State) :
    (restartAudit s).queue = s.queue := rfl
@[simp] theorem restartAudit_demand (s : State) :
    (restartAudit s).demand = s.demand := rfl
@[simp] theorem restartAudit_mode (s : State) :
    (restartAudit s).mode = s.mode := rfl
@[simp] theorem restartAudit_holdReply (s : State) :
    (restartAudit s).holdReply = s.holdReply := rfl
@[simp] theorem restartAudit_drive (s : State) :
    (restartAudit s).drive = s.drive := rfl
@[simp] theorem restartAudit_strokes (s : State) :
    (restartAudit s).strokes = s.strokes := rfl
@[simp] theorem restartAudit_freeCount (s : State) :
    (restartAudit s).freeCount = s.freeCount := rfl
@[simp] theorem restartAudit_pending (s : State) :
    (restartAudit s).pending = s.pending := rfl
@[simp] theorem restartAudit_held (s : State) :
    (restartAudit s).held = s.held := rfl

/-! ### `maskLoad` -/

@[simp] theorem maskLoad_clock (s : State) :
    (maskLoad s).clock = s.clock := rfl
@[simp] theorem maskLoad_line (s : State) :
    (maskLoad s).line = s.line := rfl
@[simp] theorem maskLoad_pos (s : State) :
    (maskLoad s).pos = s.pos := rfl
@[simp] theorem maskLoad_params (s : State) :
    (maskLoad s).params = s.params := rfl
@[simp] theorem maskLoad_walker (s : State) :
    (maskLoad s).walker = s.walker := rfl
@[simp] theorem maskLoad_look (s : State) :
    (maskLoad s).look = s.look := rfl
@[simp] theorem maskLoad_queue (s : State) :
    (maskLoad s).queue = s.queue := rfl
@[simp] theorem maskLoad_demand (s : State) :
    (maskLoad s).demand = s.demand := rfl
@[simp] theorem maskLoad_mode (s : State) :
    (maskLoad s).mode = s.mode := rfl
@[simp] theorem maskLoad_holdReply (s : State) :
    (maskLoad s).holdReply = s.holdReply := rfl
@[simp] theorem maskLoad_drive (s : State) :
    (maskLoad s).drive = s.drive := rfl
@[simp] theorem maskLoad_strokes (s : State) :
    (maskLoad s).strokes = s.strokes := rfl
@[simp] theorem maskLoad_audit (s : State) :
    (maskLoad s).audit = s.audit := rfl
@[simp] theorem maskLoad_freeCount (s : State) :
    (maskLoad s).freeCount = s.freeCount := rfl
@[simp] theorem maskLoad_pending (s : State) :
    (maskLoad s).pending = s.pending := rfl
@[simp] theorem maskLoad_held (s : State) :
    (maskLoad s).held = s.held := rfl

/-! ### `restartStore` -/

@[simp] theorem restartStore_clock (s : State) :
    (restartStore s).clock = s.clock := rfl
@[simp] theorem restartStore_line (s : State) :
    (restartStore s).line = s.line := rfl
@[simp] theorem restartStore_pos (s : State) :
    (restartStore s).pos = s.pos := rfl
@[simp] theorem restartStore_params (s : State) :
    (restartStore s).params = s.params := rfl
@[simp] theorem restartStore_walker (s : State) :
    (restartStore s).walker = s.walker := rfl
@[simp] theorem restartStore_look (s : State) :
    (restartStore s).look = s.look := rfl
@[simp] theorem restartStore_queue (s : State) :
    (restartStore s).queue = s.queue := rfl
@[simp] theorem restartStore_demand (s : State) :
    (restartStore s).demand = s.demand := rfl
@[simp] theorem restartStore_mode (s : State) :
    (restartStore s).mode = s.mode := rfl
@[simp] theorem restartStore_holdReply (s : State) :
    (restartStore s).holdReply = s.holdReply := rfl
@[simp] theorem restartStore_drive (s : State) :
    (restartStore s).drive = s.drive := rfl
@[simp] theorem restartStore_strokes (s : State) :
    (restartStore s).strokes = s.strokes := rfl
@[simp] theorem restartStore_audit (s : State) :
    (restartStore s).audit = s.audit := rfl
@[simp] theorem restartStore_freeCount (s : State) :
    (restartStore s).freeCount = s.freeCount := rfl
@[simp] theorem restartStore_pending (s : State) :
    (restartStore s).pending = s.pending := rfl
@[simp] theorem restartStore_held (s : State) :
    (restartStore s).held = s.held := rfl

/-! ### The line interface under a change of one port -/

@[simp] theorem setPort_upstream (l : LineInterface) (p : Port) (x : PortState) : (setPort l p x).upstream = l.upstream := by
  cases p <;> rfl
@[simp] theorem setPort_address (l : LineInterface) (p : Port) (x : PortState) : (setPort l p x).address = l.address := by
  cases p <;> rfl
@[simp] theorem setPort_floorA (l : LineInterface) (p : Port) (x : PortState) : (setPort l p x).floorA = l.floorA := by
  cases p <;> rfl
@[simp] theorem setPort_floorB (l : LineInterface) (p : Port) (x : PortState) : (setPort l p x).floorB = l.floorB := by
  cases p <;> rfl
@[simp] theorem setPort_masked (l : LineInterface) (p : Port) (x : PortState) : (setPort l p x).masked = l.masked := by
  cases p <;> rfl
@[simp] theorem setPort_reportTag (l : LineInterface) (p : Port) (x : PortState) : (setPort l p x).reportTag = l.reportTag := by
  cases p <;> rfl
@[simp] theorem setPort_trailDrop (l : LineInterface) (p : Port) (x : PortState) : (setPort l p x).trailDrop = l.trailDrop := by
  cases p <;> rfl
@[simp] theorem setPort_requestsTaken (l : LineInterface) (p : Port) (x : PortState) : (setPort l p x).requestsTaken = l.requestsTaken := by
  cases p <;> rfl
@[simp] theorem setPort_levelRefusals (l : LineInterface) (p : Port) (x : PortState) : (setPort l p x).levelRefusals = l.levelRefusals := by
  cases p <;> rfl
@[simp] theorem onPort_line_upstream (p : Port) (f : PortState → PortState) (s : State) :
    (onPort p f s).line.upstream = s.line.upstream := setPort_upstream _ _ _
@[simp] theorem onPort_line_address (p : Port) (f : PortState → PortState) (s : State) :
    (onPort p f s).line.address = s.line.address := setPort_address _ _ _
@[simp] theorem onPort_line_floorA (p : Port) (f : PortState → PortState) (s : State) :
    (onPort p f s).line.floorA = s.line.floorA := setPort_floorA _ _ _
@[simp] theorem onPort_line_floorB (p : Port) (f : PortState → PortState) (s : State) :
    (onPort p f s).line.floorB = s.line.floorB := setPort_floorB _ _ _
@[simp] theorem onPort_line_masked (p : Port) (f : PortState → PortState) (s : State) :
    (onPort p f s).line.masked = s.line.masked := setPort_masked _ _ _
@[simp] theorem onPort_line_reportTag (p : Port) (f : PortState → PortState) (s : State) :
    (onPort p f s).line.reportTag = s.line.reportTag := setPort_reportTag _ _ _
@[simp] theorem onPort_line_trailDrop (p : Port) (f : PortState → PortState) (s : State) :
    (onPort p f s).line.trailDrop = s.line.trailDrop := setPort_trailDrop _ _ _
@[simp] theorem onPort_line_requestsTaken (p : Port) (f : PortState → PortState) (s : State) :
    (onPort p f s).line.requestsTaken = s.line.requestsTaken := setPort_requestsTaken _ _ _
@[simp] theorem onPort_line_levelRefusals (p : Port) (f : PortState → PortState) (s : State) :
    (onPort p f s).line.levelRefusals = s.line.levelRefusals := setPort_levelRefusals _ _ _
@[simp] theorem forward_line_upstream (p : Port) (h : Header) (b : Body) (s : State) :
    (forward p h b s).line.upstream = s.line.upstream := setPort_upstream _ _ _
@[simp] theorem forward_line_address (p : Port) (h : Header) (b : Body) (s : State) :
    (forward p h b s).line.address = s.line.address := setPort_address _ _ _
@[simp] theorem forward_line_floorA (p : Port) (h : Header) (b : Body) (s : State) :
    (forward p h b s).line.floorA = s.line.floorA := setPort_floorA _ _ _
@[simp] theorem forward_line_floorB (p : Port) (h : Header) (b : Body) (s : State) :
    (forward p h b s).line.floorB = s.line.floorB := setPort_floorB _ _ _
@[simp] theorem forward_line_masked (p : Port) (h : Header) (b : Body) (s : State) :
    (forward p h b s).line.masked = s.line.masked := setPort_masked _ _ _
@[simp] theorem forward_line_reportTag (p : Port) (h : Header) (b : Body) (s : State) :
    (forward p h b s).line.reportTag = s.line.reportTag := setPort_reportTag _ _ _
@[simp] theorem forward_line_trailDrop (p : Port) (h : Header) (b : Body) (s : State) :
    (forward p h b s).line.trailDrop = s.line.trailDrop := setPort_trailDrop _ _ _
@[simp] theorem forward_line_requestsTaken (p : Port) (h : Header) (b : Body) (s : State) :
    (forward p h b s).line.requestsTaken = s.line.requestsTaken := setPort_requestsTaken _ _ _
@[simp] theorem forward_line_levelRefusals (p : Port) (h : Header) (b : Body) (s : State) :
    (forward p h b s).line.levelRefusals = s.line.levelRefusals := setPort_levelRefusals _ _ _
@[simp] theorem countReceived_line_upstream (p : Port) (s : State) :
    (countReceived p s).line.upstream = s.line.upstream := setPort_upstream _ _ _
@[simp] theorem countReceived_line_address (p : Port) (s : State) :
    (countReceived p s).line.address = s.line.address := setPort_address _ _ _
@[simp] theorem countReceived_line_floorA (p : Port) (s : State) :
    (countReceived p s).line.floorA = s.line.floorA := setPort_floorA _ _ _
@[simp] theorem countReceived_line_floorB (p : Port) (s : State) :
    (countReceived p s).line.floorB = s.line.floorB := setPort_floorB _ _ _
@[simp] theorem countReceived_line_masked (p : Port) (s : State) :
    (countReceived p s).line.masked = s.line.masked := setPort_masked _ _ _
@[simp] theorem countReceived_line_reportTag (p : Port) (s : State) :
    (countReceived p s).line.reportTag = s.line.reportTag := setPort_reportTag _ _ _
@[simp] theorem countReceived_line_trailDrop (p : Port) (s : State) :
    (countReceived p s).line.trailDrop = s.line.trailDrop := setPort_trailDrop _ _ _
@[simp] theorem countReceived_line_requestsTaken (p : Port) (s : State) :
    (countReceived p s).line.requestsTaken = s.line.requestsTaken := setPort_requestsTaken _ _ _
@[simp] theorem countReceived_line_levelRefusals (p : Port) (s : State) :
    (countReceived p s).line.levelRefusals = s.line.levelRefusals := setPort_levelRefusals _ _ _
@[simp] theorem sendReply_line_upstream (p : Port) (src : Byte) (tag : Word16) (code : Byte) (r : ResultCode) (x : ReplyPayload) (s : State) :
    (sendReply p src tag code r x s).line.upstream = s.line.upstream := setPort_upstream _ _ _
@[simp] theorem sendReply_line_address (p : Port) (src : Byte) (tag : Word16) (code : Byte) (r : ResultCode) (x : ReplyPayload) (s : State) :
    (sendReply p src tag code r x s).line.address = s.line.address := setPort_address _ _ _
@[simp] theorem sendReply_line_floorA (p : Port) (src : Byte) (tag : Word16) (code : Byte) (r : ResultCode) (x : ReplyPayload) (s : State) :
    (sendReply p src tag code r x s).line.floorA = s.line.floorA := setPort_floorA _ _ _
@[simp] theorem sendReply_line_floorB (p : Port) (src : Byte) (tag : Word16) (code : Byte) (r : ResultCode) (x : ReplyPayload) (s : State) :
    (sendReply p src tag code r x s).line.floorB = s.line.floorB := setPort_floorB _ _ _
@[simp] theorem sendReply_line_masked (p : Port) (src : Byte) (tag : Word16) (code : Byte) (r : ResultCode) (x : ReplyPayload) (s : State) :
    (sendReply p src tag code r x s).line.masked = s.line.masked := setPort_masked _ _ _
@[simp] theorem sendReply_line_reportTag (p : Port) (src : Byte) (tag : Word16) (code : Byte) (r : ResultCode) (x : ReplyPayload) (s : State) :
    (sendReply p src tag code r x s).line.reportTag = s.line.reportTag := setPort_reportTag _ _ _
@[simp] theorem sendReply_line_trailDrop (p : Port) (src : Byte) (tag : Word16) (code : Byte) (r : ResultCode) (x : ReplyPayload) (s : State) :
    (sendReply p src tag code r x s).line.trailDrop = s.line.trailDrop := setPort_trailDrop _ _ _
@[simp] theorem sendReply_line_requestsTaken (p : Port) (src : Byte) (tag : Word16) (code : Byte) (r : ResultCode) (x : ReplyPayload) (s : State) :
    (sendReply p src tag code r x s).line.requestsTaken = s.line.requestsTaken := setPort_requestsTaken _ _ _
@[simp] theorem sendReply_line_levelRefusals (p : Port) (src : Byte) (tag : Word16) (code : Byte) (r : ResultCode) (x : ReplyPayload) (s : State) :
    (sendReply p src tag code r x s).line.levelRefusals = s.line.levelRefusals := setPort_levelRefusals _ _ _
@[simp] theorem nextReportTag_line_upstream (s : State) : (nextReportTag s).line.upstream = s.line.upstream := rfl
@[simp] theorem sendReport_line_upstream (r : Report) (s : State) : (sendReport r s).line.upstream = s.line.upstream := by
  unfold sendReport; split <;> simp
@[simp] theorem nextReportTag_line_address (s : State) : (nextReportTag s).line.address = s.line.address := rfl
@[simp] theorem sendReport_line_address (r : Report) (s : State) : (sendReport r s).line.address = s.line.address := by
  unfold sendReport; split <;> simp
@[simp] theorem nextReportTag_line_floorA (s : State) : (nextReportTag s).line.floorA = s.line.floorA := rfl
@[simp] theorem sendReport_line_floorA (r : Report) (s : State) : (sendReport r s).line.floorA = s.line.floorA := by
  unfold sendReport; split <;> simp
@[simp] theorem nextReportTag_line_floorB (s : State) : (nextReportTag s).line.floorB = s.line.floorB := rfl
@[simp] theorem sendReport_line_floorB (r : Report) (s : State) : (sendReport r s).line.floorB = s.line.floorB := by
  unfold sendReport; split <;> simp
@[simp] theorem nextReportTag_line_masked (s : State) : (nextReportTag s).line.masked = s.line.masked := rfl
@[simp] theorem sendReport_line_masked (r : Report) (s : State) : (sendReport r s).line.masked = s.line.masked := by
  unfold sendReport; split <;> simp
@[simp] theorem nextReportTag_line_trailDrop (s : State) : (nextReportTag s).line.trailDrop = s.line.trailDrop := rfl
@[simp] theorem sendReport_line_trailDrop (r : Report) (s : State) : (sendReport r s).line.trailDrop = s.line.trailDrop := by
  unfold sendReport; split <;> simp
@[simp] theorem nextReportTag_line_requestsTaken (s : State) : (nextReportTag s).line.requestsTaken = s.line.requestsTaken := rfl
@[simp] theorem sendReport_line_requestsTaken (r : Report) (s : State) : (sendReport r s).line.requestsTaken = s.line.requestsTaken := by
  unfold sendReport; split <;> simp
@[simp] theorem nextReportTag_line_levelRefusals (s : State) : (nextReportTag s).line.levelRefusals = s.line.levelRefusals := rfl
@[simp] theorem sendReport_line_levelRefusals (r : Report) (s : State) : (sendReport r s).line.levelRefusals = s.line.levelRefusals := by
  unfold sendReport; split <;> simp
@[simp] theorem nextReportTag_line_reportTag (s : State) :
    (nextReportTag s).line.reportTag = s.line.reportTag + 1#16 := rfl
@[simp] theorem sendReport_line_reportTag (r : Report) (s : State) :
    (sendReport r s).line.reportTag = s.line.reportTag + 1#16 := by
  unfold sendReport; split <;> simp

end Sys2Proof.Machine
end

