-- ==== Sys2Proof/Laws/Line.lean ====
section
/-! SUPPORT. The line interface: the arbiter and the queues keep the law of R157 and R158, and so does every
operation that places a frame. -/

namespace Sys2Proof.Machine

open Sys2Proof.Safety

/-- The arbiter on a port within its depths leaves no frame waiting beside an IDLE transmitter (R158). -/
theorem portLaw_arbitrate {p : PortState} (h1 : p.fwd.length ≤ 16) (h2 : p.own.length ≤ 8) (h3 : p.streak ≤ 4) :
    PortLaw (arbitrate p) := by
  obtain ⟨fwd, own, sending, streak, n1, n2, n3, n4⟩ := p
  simp only at h1 h2 h3
  cases sending with
  | some f => exact ⟨h1, h2, h3, by simp [arbitrate]⟩
  | none =>
    cases fwd with
    | nil =>
      cases own with
      | nil => exact ⟨h1, h2, h3, by simp [arbitrate]⟩
      | cons o os => exact ⟨h1, by simp [arbitrate] at h2 ⊢; omega, by simp [arbitrate], by simp [arbitrate]⟩
    | cons f fs =>
      cases own with
      | nil => exact ⟨by simp [arbitrate] at h1 ⊢; omega, h2, by simp [arbitrate], by simp [arbitrate]⟩
      | cons o os =>
        by_cases h : streak < 4
        · simp only [arbitrate, h, if_true]
          exact ⟨by simp at h1 ⊢; omega, h2, by simp; omega, by simp⟩
        · simp only [arbitrate, h, if_false]
          exact ⟨h1, by simp at h2 ⊢; omega, by simp, by simp⟩

/-- A frame that joins a forwarding queue keeps the law (R157). -/
theorem portLaw_joinForward (f : Frame) {p : PortState} (h : PortLaw p) : PortLaw (joinForward f p) := by
  obtain ⟨h1, h2, h3, h4⟩ := h
  unfold joinForward
  split
  · exact portLaw_arbitrate (by simp [Config.forwardDepth] at *; omega) h2 h3
  · exact ⟨h1, h2, h3, h4⟩

/-- A frame that joins an own-frame queue keeps the law (R157). -/
theorem portLaw_joinOwn (f : Frame) {p : PortState} (h : PortLaw p) : PortLaw (joinOwn f p) := by
  obtain ⟨h1, h2, h3, h4⟩ := h
  unfold joinOwn
  split
  · exact portLaw_arbitrate h1 (by simp [Config.ownDepth] at *; omega) h3
  · exact ⟨h1, h2, h3, h4⟩

/-- The end of a transmission keeps the law (R158). -/
theorem portLaw_endTransmission {p : PortState} (h : PortLaw p) : PortLaw (endTransmission p) := by
  unfold endTransmission
  split
  · exact h
  · exact portLaw_arbitrate h.1 h.2.1 h.2.2.1

@[simp] theorem portOf_setPort_same (l : LineInterface) (p : Port) (x : PortState) : portOf (setPort l p x) p = x := by
  cases p <;> rfl

theorem portOf_setPort_other (l : LineInterface) {p q : Port} (x : PortState) (h : q ≠ p) :
    portOf (setPort l p x) q = portOf l q := by cases p <;> cases q <;> first | rfl | exact absurd rfl h

/-- The law of the line, by port. -/
theorem lineLaw_iff (s : State) : LineLaw s ↔ ∀ p, PortLaw (portOf s.line p) :=
  ⟨fun h p => by cases p; exacts [h.1, h.2], fun h => ⟨h .a, h .b⟩⟩

/-- The law speaks of the two ports only. -/
theorem lineLaw_congr {s t : State} (ha : t.line.portA = s.line.portA) (hb : t.line.portB = s.line.portB)
    (h : LineLaw s) : LineLaw t := by
  unfold LineLaw; rw [ha, hb]; exact h

/-- A change of one port that keeps its law keeps the law of the line. -/
theorem lineLaw_onPort {p : Port} {f : PortState → PortState} {s : State}
    (hf : PortLaw (portOf s.line p) → PortLaw (f (portOf s.line p))) (h : LineLaw s) : LineLaw (onPort p f s) := by
  rw [lineLaw_iff] at h ⊢
  intro q
  by_cases e : q = p
  · subst e; simpa [onPort] using hf (h q)
  · simpa [onPort, portOf_setPort_other _ _ e] using h q

theorem lineLaw_forward (arrival : Port) (h : Header) (b : Body) {s : State} (hs : LineLaw s) : LineLaw (forward arrival h b s) :=
  lineLaw_onPort (portLaw_joinForward _) hs

theorem lineLaw_countReceived (p : Port) {s : State} (hs : LineLaw s) : LineLaw (countReceived p s) :=
  lineLaw_onPort (fun h => h) hs

theorem lineLaw_sendReply (arrival : Port) (source : Byte) (tag : Word16) (code : Byte) (result : ResultCode)
    (payload : ReplyPayload) {s : State} (hs : LineLaw s) : LineLaw (sendReply arrival source tag code result payload s) :=
  lineLaw_onPort (portLaw_joinOwn _) hs

theorem lineLaw_sendReport (r : Report) {s : State} (hs : LineLaw s) : LineLaw (sendReport r s) := by
  unfold sendReport
  split
  · exact lineLaw_onPort (portLaw_joinOwn _) hs
  · exact lineLaw_onPort (portLaw_joinOwn _) (lineLaw_onPort (portLaw_joinOwn _) hs)

end Sys2Proof.Machine
end

