-- ==== Sys2Proof/Laws/Effects.lean ====
section
/-! SUPPORT. What each shared action can change, said once: an action equals the state with the named fields replaced,
and on the line it does no more than place frames. -/

namespace Sys2Proof.Machine

open Sys2Proof.Safety

/-- The line of t is that of s with frames placed: nothing else of it differs, at most n report tags are used, and
the law of the queues is kept. -/
structure FramesPlaced (n : Nat) (s t : State) : Prop where
  upstream : t.line.upstream = s.line.upstream
  address : t.line.address = s.line.address
  masked : t.line.masked = s.line.masked
  floorA : t.line.floorA = s.line.floorA
  floorB : t.line.floorB = s.line.floorB
  counts : t.line.trailDrop = s.line.trailDrop ∧ t.line.requestsTaken = s.line.requestsTaken
    ∧ t.line.levelRefusals = s.line.levelRefusals
  tag : ∃ k ≤ n, t.line.reportTag = s.line.reportTag + BitVec.ofNat 16 k
  law : LineLaw s → LineLaw t

/-- An action that leaves the line alone places no frame. -/
theorem FramesPlaced.ofEq {s t : State} (h : t.line = s.line) : FramesPlaced 0 s t :=
  ⟨by rw [h], by rw [h], by rw [h], by rw [h], by rw [h], ⟨by rw [h], by rw [h], by rw [h]⟩,
    ⟨0, Nat.le_refl _, by rw [h]; simp⟩, lineLaw_congr (by rw [h]) (by rw [h])⟩

/-- Frames placed one action after another. -/
theorem FramesPlaced.trans {m n : Nat} {s t u : State} (h1 : FramesPlaced m s t) (h2 : FramesPlaced n t u) :
    FramesPlaced (m + n) s u := by
  obtain ⟨a1, a2, a3, a4, a5, ⟨a6, a7, a8⟩, ⟨j, hj, a9⟩, a10⟩ := h1
  obtain ⟨b1, b2, b3, b4, b5, ⟨b6, b7, b8⟩, ⟨k, hk, b9⟩, b10⟩ := h2
  refine ⟨b1.trans a1, b2.trans a2, b3.trans a3, b4.trans a4, b5.trans a5, ⟨b6.trans a6, b7.trans a7, b8.trans a8⟩,
    ⟨j + k, by omega, ?_⟩, fun h => b10 (a10 h)⟩
  rw [b9, a9, BitVec.add_assoc, ← BitVec.ofNat_add]

theorem FramesPlaced.mono {m n : Nat} {s t : State} (h : FramesPlaced m s t) (hmn : m ≤ n) : FramesPlaced n s t :=
  { h with tag := h.tag.imp fun _ hk => ⟨hk.1.trans hmn, hk.2⟩ }

theorem framesPlaced_sendReply (arrival : Port) (source : Byte) (tag : Word16) (code : Byte) (result : ResultCode)
    (payload : ReplyPayload) (s : State) : FramesPlaced 0 s (sendReply arrival source tag code result payload s) :=
  ⟨by simp, by simp, by simp, by simp, by simp, by simp, ⟨0, Nat.le_refl _, by simp⟩, lineLaw_sendReply _ _ _ _ _ _⟩

theorem framesPlaced_sendReport (r : Report) (s : State) : FramesPlaced 1 s (sendReport r s) :=
  ⟨by simp, by simp, by simp, by simp, by simp, by simp, ⟨1, Nat.le_refl _, by simp⟩, lineLaw_sendReport _⟩

/-- A state that agrees with s in all but four fields is s with those fields replaced. -/
theorem eq_of_kept {s t : State}
    (h : t.clock = s.clock ∧ t.pos = s.pos ∧ t.params = s.params ∧ t.walker = s.walker ∧ t.look = s.look
      ∧ t.store = s.store ∧ t.queue = s.queue ∧ t.demand = s.demand ∧ t.drive = s.drive ∧ t.strokes = s.strokes
      ∧ t.held = s.held ∧ t.freeCount = s.freeCount ∧ t.pending = s.pending) :
    t = { s with line := t.line, mode := t.mode, holdReply := t.holdReply, audit := t.audit } := by
  cases t; simp_all

/-- An action that leaves the line alone, then a report. -/
theorem framesPlaced_report {s t : State} (r : Report) (h : t.line = s.line) : FramesPlaced 1 s (sendReport r t) :=
  (FramesPlaced.ofEq h).trans (framesPlaced_sendReport r t)

/-! ### The mode controller and the audit -/

theorem sendReport_eq (r : Report) (s : State) : sendReport r s = { s with line := (sendReport r s).line } := by
  unfold sendReport; split <;> rfl

theorem answerHold_eq (o : SettleOutcome) (s : State) :
    answerHold o s = { s with line := (answerHold o s).line, holdReply := none } := by
  unfold answerHold
  split
  · next h => rw [← h]
  · rfl

theorem framesPlaced_answerHold (o : SettleOutcome) (s : State) : FramesPlaced 0 s (answerHold o s) := by
  unfold answerHold
  split
  · exact .ofEq rfl
  · next p _ =>
      exact (FramesPlaced.ofEq (s := s) (t := { s with holdReply := none }) rfl).trans (framesPlaced_sendReply ..)

theorem changeMode_eq (reason : ModeReason) (m : ModeController) (s : State) :
    changeMode reason m s = { s with line := (changeMode reason m s).line, mode := m } := by
  unfold changeMode
  split
  · rfl
  · exact sendReport_eq _ _

/-- A change of mode uses one report tag; without one, none (R123). -/
theorem framesPlaced_changeMode (reason : ModeReason) (m : ModeController) (s : State) :
    FramesPlaced (if m.mode = s.mode.mode then 0 else 1) s (changeMode reason m s) := by
  unfold changeMode
  split
  · exact .ofEq rfl
  · exact framesPlaced_report _ rfl

theorem completeAudit_eq (c : Completion) (s : State) :
    completeAudit c s =
      { s with line := (completeAudit c s).line, audit := (completeAudit c s).audit } := by
  unfold completeAudit
  split
  · rfl
  · rfl
  · rw [sendReport_audit]; exact sendReport_eq _ _

theorem framesPlaced_completeAudit (c : Completion) (s : State) : FramesPlaced 1 s (completeAudit c s) := by
  unfold completeAudit
  split
  · exact FramesPlaced.mono (.ofEq rfl) (Nat.zero_le 1)
  · exact FramesPlaced.mono (m := 0) (.ofEq rfl) (Nat.zero_le 1)
  · exact framesPlaced_report _ rfl

/-- After a completion no tag is pending. -/
@[simp] theorem completeAudit_pending (c : Completion) (s : State) : (completeAudit c s).audit.pending = none := by
  unfold completeAudit
  split
  · assumption
  · rfl
  · simp

theorem auditAnswer_eq (seq : Byte) (stroke angle : Int) (status : AckStatus) (s : State) :
    auditAnswer seq stroke angle status s =
      { s with
        line := (auditAnswer seq stroke angle status s).line
        audit := (auditAnswer seq stroke angle status s).audit } := by
  unfold auditAnswer
  split
  · split
    · exact completeAudit_eq _ _
    · rfl
  · rfl

theorem framesPlaced_auditAnswer (seq : Byte) (stroke angle : Int) (status : AckStatus) (s : State) :
    FramesPlaced 1 s (auditAnswer seq stroke angle status s) := by
  unfold auditAnswer
  split
  · split
    · exact framesPlaced_completeAudit _ _
    · exact FramesPlaced.mono (.ofEq rfl) (Nat.zero_le 1)
  · exact FramesPlaced.mono (.ofEq rfl) (Nat.zero_le 1)

theorem auditCount_eq (sum : StepSummary) (d : Drive) (s : State) :
    auditCount sum d s =
      { s with audit := (auditCount sum d s).audit, freeCount := (auditCount sum d s).freeCount } := by
  unfold auditCount
  split
  · split <;> rfl
  · rfl

theorem auditHandover_eq (sum : StepSummary) (d : Drive) (s : State) :
    auditHandover sum d s =
      { s with
        line := (auditHandover sum d s).line, audit := (auditHandover sum d s).audit
        freeCount := (auditHandover sum d s).freeCount } := by
  unfold auditHandover
  rw [auditCount_eq, completeAudit_eq]

/-- With no tag pending a hand-over sends nothing. -/
theorem auditHandover_idle {s : State} (sum : StepSummary) (d : Drive) (h : s.audit.pending = none) :
    auditHandover sum d s = auditCount sum d s := by
  simp [auditHandover, completeAudit, h]

theorem framesPlaced_auditHandover (sum : StepSummary) (d : Drive) (s : State) :
    FramesPlaced (if s.audit.pending = none then 0 else 1) s (auditHandover sum d s) := by
  split
  · next h => rw [auditHandover_idle _ _ h, auditCount_eq]; exact .ofEq rfl
  · unfold auditHandover
    have h := framesPlaced_completeAudit .noAck s
    rw [auditCount_eq]
    exact h.trans (m := 1) (n := 0) (.ofEq rfl)

theorem takeFault_eq (cause : FaultCause) (s : State) :
    takeFault cause s =
      { s with
        line := (takeFault cause s).line, mode := (takeFault cause s).mode
        holdReply := (takeFault cause s).holdReply, audit := (takeFault cause s).audit } := by
  unfold takeFault
  split
  · unfold furtherFault
    rw [sendReport_mode, sendReport_holdReply, sendReport_audit]
    exact sendReport_eq _ _
  · unfold enterFault
    refine eq_of_kept ?_
    simp only [sendReport_clock, sendReport_pos, sendReport_params, sendReport_walker, sendReport_look,
      sendReport_store, sendReport_queue, sendReport_demand, sendReport_drive, sendReport_strokes,
      sendReport_held, sendReport_freeCount, sendReport_pending]
    rw [completeAudit_eq, answerHold_eq]
    exact ⟨rfl, rfl, rfl, rfl, rfl, rfl, rfl, rfl, rfl, rfl, rfl, rfl, rfl⟩

/-- A fault taken in FAULT keeps everything but its own counts and notes (R132). -/
theorem takeFault_further {cause : FaultCause} {s : State} (h : s.mode.mode = .fault) :
    takeFault cause s = { s with line := (takeFault cause s).line, mode := furtherMode cause s.mode } := by
  simp only [takeFault, h, if_true, furtherFault]
  exact sendReport_eq _ _

@[simp] theorem takeFault_mode (cause : FaultCause) (s : State) :
    (takeFault cause s).mode = if s.mode.mode = .fault then furtherMode cause s.mode else faultedMode cause s.mode := by
  unfold takeFault
  split
  · simp [furtherFault]
  · simp only [enterFault, sendReport_mode]
    rw [completeAudit_eq, answerHold_eq]

/-- A fault entered leaves no tag pending and no HOLD reply pending (R131). -/
theorem takeFault_entered {cause : FaultCause} {s : State} (h : s.mode.mode ≠ .fault) :
    (takeFault cause s).audit.pending = none ∧ (takeFault cause s).holdReply = none := by
  simp only [takeFault, h, if_false, enterFault, sendReport_audit, sendReport_holdReply, completeAudit_pending,
    true_and]
  rw [completeAudit_eq, answerHold_eq]

/-- A fault entered uses at most three report tags and a further fault one (R131, R132). -/
theorem framesPlaced_takeFault (cause : FaultCause) (s : State) :
    FramesPlaced (if s.mode.mode = .fault then 1 else 3) s (takeFault cause s) := by
  unfold takeFault
  split
  · exact framesPlaced_report _ rfl
  · have h1 : FramesPlaced 0 s { s with mode := faultedMode cause s.mode } := .ofEq rfl
    exact (((h1.trans (framesPlaced_answerHold ..)).trans (framesPlaced_completeAudit ..)).trans
      (framesPlaced_sendReport ..)).trans (framesPlaced_sendReport ..)

/-! ### The watchdog -/

/-- An expiry of the watchdog makes it IDLE, and beside that does only what the fault does (R13). -/
theorem watchdogExpires_eq (s : State) :
    watchdogExpires s =
      { s with
        line := (watchdogExpires s).line, pos := { s.pos with watchdog := .idle }, mode := (watchdogExpires s).mode
        holdReply := (watchdogExpires s).holdReply, audit := (watchdogExpires s).audit } :=
  takeFault_eq .odoLost _

@[simp] theorem watchdogExpires_params (s : State) : (watchdogExpires s).params = s.params := by
  rw [watchdogExpires_eq]

@[simp] theorem watchdogExpires_pos (s : State) :
    (watchdogExpires s).pos = { s.pos with watchdog := .idle } := by
  rw [watchdogExpires_eq]

/-- An expiry uses as many report tags as its fault (R131, R132). -/
theorem framesPlaced_watchdogExpires (s : State) :
    FramesPlaced (if s.mode.mode = .fault then 1 else 3) s (watchdogExpires s) := by
  have h : FramesPlaced 0 s { s with pos := { s.pos with watchdog := .idle } } := .ofEq rfl
  have h1 := h.trans (framesPlaced_takeFault .odoLost _)
  rwa [Nat.zero_add] at h1

/-- The taking of a parameter's value sets it, and no more, but for an odo_lost_ms that moves the expiry of a running
watchdog to an instant already passed: there the watchdog expires as well (R13). -/
theorem applyParam_cases (x : Param) (v : Int) (s : State) :
    applyParam x v s = setParam x v s
      ∨ (x = .odoLostMs ∧ s.pos.watchdog = .running
        ∧ (∃ a, s.clock.arrival = some a ∧ a + v.toNat * 2000 ≤ s.clock.now)
        ∧ applyParam x v s = watchdogExpires (setParam x v s)) := by
  unfold applyParam
  dsimp only
  split
  · next h =>
    obtain ⟨rfl, h⟩ := h
    cases hw : s.pos.watchdog <;> cases ha : s.clock.arrival <;>
      simp [setParam, setIn, watchdogDue, reached, Config.ticksPerMs, hw, ha] at h
    exact .inr ⟨rfl, rfl, ⟨_, rfl, of_decide_eq_true h⟩, rfl⟩
  · exact .inl rfl

/-! ### The taking of a fault does not look at the drive port -/

/-- The state with another drive port. -/
def withDrive (d : DrivePort) (s : State) : State := { s with drive := d }

/-- What a report does to the line depends on the line alone. -/
theorem sendReport_line_congr (r : Report) {s t : State} (h : s.line = t.line) :
    (sendReport r s).line = (sendReport r t).line := by
  unfold sendReport nextReportTag reportFrame
  rw [h]
  split <;> simp only [onPort, nodeSource, h]

theorem sendReport_withDrive (r : Report) (d : DrivePort) (s : State) :
    sendReport r (withDrive d s) = withDrive d (sendReport r s) := by
  cases h : s.line.upstream <;> simp only [sendReport, withDrive, h] <;> rfl

theorem answerHold_withDrive (o : SettleOutcome) (d : DrivePort) (s : State) :
    answerHold o (withDrive d s) = withDrive d (answerHold o s) := by
  cases h : s.holdReply <;> simp only [answerHold, withDrive, h]
  simp only [sendReply]
  cases s.line.upstream <;> rfl

theorem completeAudit_withDrive (c : Completion) (d : DrivePort) (s : State) :
    completeAudit c (withDrive d s) = withDrive d (completeAudit c s) := by
  cases h : s.audit.pending with
  | none => simp only [completeAudit, withDrive, h]
  | some tag =>
    cases h2 : s.audit.record with
    | none => simp only [completeAudit, withDrive, h, h2]
    | some r =>
      simp only [completeAudit, show (withDrive d s).audit = s.audit from rfl, h, h2]
      rw [← sendReport_withDrive]
      rfl

/-- A fault is taken alike whatever the drive port holds. -/
theorem takeFault_withDrive (cause : FaultCause) (d : DrivePort) (s : State) :
    takeFault cause (withDrive d s) = withDrive d (takeFault cause s) := by
  by_cases h : s.mode.mode = .fault
  · rw [takeFault, takeFault, if_pos h, if_pos (show (withDrive d s).mode.mode = _ from h), furtherFault,
      furtherFault, ← sendReport_withDrive]
    rfl
  · rw [takeFault, takeFault, if_neg h, if_neg (show ¬ (withDrive d s).mode.mode = _ from h), enterFault,
      enterFault, ← sendReport_withDrive, ← sendReport_withDrive, ← completeAudit_withDrive, ← answerHold_withDrive]
    rfl

/-! ### The step -/

/-- A geometry query changes the walker and the lookahead items (R31, R62, R63). -/
theorem geometryQuery_eq (pa : PositionAnswer) (s : State) :
    (geometryQuery pa s).1 =
      { s with walker := (geometryQuery pa s).1.walker, look := (geometryQuery pa s).1.look } := by
  rfl

/-- The stages change the demand unit, and place a DISAGREE report at most (R109). -/
theorem runStages_eq (g : Stages) (pa : PositionAnswer) (ra : RouteAnswer) (s : State) :
    runStages g pa ra s =
      { s with line := (runStages g pa ra s).line, demand := stagedDemand s.params g s.demand } := by
  unfold runStages
  split
  · exact sendReport_eq _ _
  · rfl

theorem framesPlaced_runStages (g : Stages) (pa : PositionAnswer) (ra : RouteAnswer) (s : State) :
    FramesPlaced 1 s (runStages g pa ra s) := by
  unfold runStages
  dsimp only
  split
  · exact framesPlaced_report _ rfl
  · exact FramesPlaced.mono (m := 0) (.ofEq rfl) (Nat.zero_le 1)

/-- The command of a step is the previous command after it (R116, R117). -/
theorem takeCommand_eq (command : Option Int) (s : State) :
    takeCommand command s =
      { s with mode := { s.mode with prevCommand := command.orElse fun _ => s.mode.prevCommand } } := by
  cases command <;> rfl

/-- The miss judgement changes the drive port, and beside it only what a miss or a fault does (R142). -/
theorem judgeMiss_eq (s : State) :
    judgeMiss s =
      { s with
        line := (judgeMiss s).line, mode := (judgeMiss s).mode, holdReply := (judgeMiss s).holdReply
        audit := (judgeMiss s).audit, drive := (judgeMiss s).drive } := by
  unfold judgeMiss
  split
  · split
    · rfl
    · rw [takeFault_eq]; rfl
  · rfl

/-- What passes the entry checks is present and usable (R35, R38). -/
theorem entryCheck_ok {w : Walker} {c : CurveStore} {sel : Nat} {d : Descriptor} (h : entryCheck w c sel = .ok d) :
    slotGet w.descs sel = some d ∧ KindUsable c d.kind := by
  unfold entryCheck at h
  split at h
  · cases h
  · next d' hd =>
    split at h
    · cases h
    · next b first count hk =>
      split at h
      · cases h
      · split at h
        · cases h
        · next h1 h2 =>
          cases h
          refine ⟨hd, ?_⟩
          rw [hk]
          exact ⟨by simpa using h1, by omega⟩
    · next h1 h2 =>
      cases h
      refine ⟨hd, ?_⟩
      cases hk : d.kind with
      | invalid => exact absurd hk h1
      | curveList b first count => exact absurd hk (h2 b first count)
      | plain => trivial
      | noTilt => trivial
      | reduced limit => trivial

/-- The arrival rule appends, replaces the newest entry, or changes no entry (R83). -/
theorem arrive_entries (d : Int) (e : PreviewEntry) (q : PreviewQueue) :
    (arrive d e q).entries = q.entries
      ∨ ((arrive d e q).entries = q.entries ++ [e] ∧ (q.entries = [] ∨ q.entries.length < 512)
          ∧ ∀ n, newest q = some n → 0 < d * ((e.chainage : Int) - n.chainage))
      ∨ ∃ n, newest q = some n ∧ (arrive d e q).entries = q.entries.dropLast ++ [{ e with chainage := n.chainage }] := by
  unfold arrive
  split
  · next h => exact .inr (.inl ⟨rfl, .inl (by simpa [newest] using h), by simp [h]⟩)
  · next n h =>
    split
    · next h1 =>
      split
      · next h2 => exact .inr (.inl ⟨rfl, .inr h2, fun m hm => by rw [h] at hm; cases hm; exact h1⟩)
      · exact .inl rfl
    · split
      · exact .inr (.inr ⟨n, h, rfl⟩)
      · exact .inl rfl

end Sys2Proof.Machine
end

