-- ==== Sys2Proof/Laws/Ops.lean ====
section
/-! SUPPORT. The laws of the shared operations: bounds and roundings, the addressed stores and their canonical form,
and the four banks. -/

namespace Sys2Proof.Machine

/-! ### Limits and saturation -/

theorem limitTo_lower (lo hi x : Int) : lo ≤ limitTo lo hi x := by
  unfold limitTo; omega

theorem limitTo_upper {lo hi : Int} (h : lo ≤ hi) (x : Int) : limitTo lo hi x ≤ hi := by
  unfold limitTo; omega

theorem limitTo_of_mem {lo hi x : Int} (h1 : lo ≤ x) (h2 : x ≤ hi) : limitTo lo hi x = x := by
  unfold limitTo; omega

theorem clampTo_natAbs_le (bound : Nat) (x : Int) : (clampTo bound x).natAbs ≤ bound := by
  unfold clampTo limitTo; omega

theorem clampTo_eq_self_iff (bound : Nat) (x : Int) : clampTo bound x = x ↔ x.natAbs ≤ bound := by
  unfold clampTo limitTo; omega

theorem saturate_le (x : Int) : saturate x ≤ Config.maxChainage := by
  unfold saturate limitTo; omega

theorem count16_le (n : Nat) : count16 n ≤ 65535 := by unfold count16; omega

theorem count16_of_lt {n : Nat} (h : n < 65535) : count16 n = n + 1 := by unfold count16; omega

/-- A count never falls while it is in its range. -/
theorem le_count16 {n : Nat} (h : n ≤ 65535) : n ≤ count16 n := by unfold count16; omega

/-! ### Division -/

/-- Half away from zero (00, "Rounding"): rounding a negated number negates the result. -/
theorem roundDiv_neg (n : Int) (d : Nat) (h : 0 < d) : roundDiv (-n) d = -roundDiv n d := by
  have h3 : d / (2 * d) = 0 := Nat.div_eq_of_lt (by omega)
  unfold roundDiv
  rcases lt_trichotomy n 0 with h1 | rfl | h1
  · rw [if_neg (by omega), if_pos h1, Int.natAbs_neg, neg_neg]
  · simp [h3]
  · rw [if_pos (by omega), if_neg (by omega), Int.natAbs_neg]

/-- The remainder of a rounded division is at most half the divisor. -/
theorem roundDiv_close (n : Int) (d : Nat) (h : 0 < d) : (2 * (n - d * roundDiv n d)).natAbs ≤ d := by
  unfold roundDiv
  have h1 := Nat.div_add_mod (2 * n.natAbs + d) (2 * d)
  have h2 := Nat.mod_lt (2 * n.natAbs + d) (show 0 < 2 * d by omega)
  have h3 : 2 * d * ((2 * n.natAbs + d) / (2 * d)) = 2 * (d * ((2 * n.natAbs + d) / (2 * d))) := Nat.mul_assoc _ _ _
  split
  · simp only [mul_neg, ← Nat.cast_mul]; omega
  · simp only [← Nat.cast_mul]; omega

/-! ### Addressed stores -/

variable {α : Type}

@[simp] theorem slotGet_nil (i : Nat) : slotGet ([] : List (Nat × α)) i = none := rfl

/-- A read after a write of the same index gives the record written. -/
@[simp] theorem slotGet_slotSet_same (m : List (Nat × α)) (i : Nat) (x : α) : slotGet (slotSet m i x) i = some x := by
  induction m with
  | nil => simp [slotSet, slotGet]
  | cons e m ih =>
    obtain ⟨b, w⟩ := e
    simp only [slotSet]
    split
    · simp [slotGet]
    · split
      · simp [slotGet]
      · rename_i h; simp [slotGet, h, ih]

/-- A write leaves every other index as it was. -/
theorem slotGet_slotSet_other (m : List (Nat × α)) {i j : Nat} (x : α) (h : j ≠ i) :
    slotGet (slotSet m i x) j = slotGet m j := by
  induction m with
  | nil => simp [slotSet, slotGet, h]
  | cons e m ih =>
    obtain ⟨b, w⟩ := e
    simp only [slotSet]
    split
    · simp [slotGet, h]
    · split
      · rename_i h2; subst h2; simp [slotGet, h]
      · simp only [slotGet, ih]

/-- An erased index reads as not listed. -/
@[simp] theorem slotGet_slotErase_same (m : List (Nat × α)) (i : Nat) : slotGet (slotErase m i) i = none := by
  induction m with
  | nil => rfl
  | cons e m ih =>
    obtain ⟨b, w⟩ := e
    by_cases h : b = i
    · subst h; simpa [slotErase] using ih
    · simpa [slotErase, h, slotGet, Ne.symm h] using ih

/-- Erasing leaves every other index as it was. -/
theorem slotGet_slotErase_other (m : List (Nat × α)) {i j : Nat} (h : j ≠ i) :
    slotGet (slotErase m i) j = slotGet m j := by
  induction m with
  | nil => rfl
  | cons e m ih =>
    obtain ⟨b, w⟩ := e
    by_cases hb : b = i
    · subst hb; simpa [slotErase, slotGet, h] using ih
    · by_cases hj : j = b
      · simp [slotErase, hb, slotGet, hj]
      · simpa [slotErase, hb, slotGet, hj] using ih

/-- The canonical form says: strictly rising indices, each below the size. -/
theorem slotsWf_iff (size : Nat) (m : List (Nat × α)) :
    slotsWf size m = true ↔ (m.map Prod.fst).Pairwise (· < ·) ∧ ∀ e ∈ m, e.1 < size := by
  induction m with
  | nil => simp [slotsWf]
  | cons e m ih =>
    obtain ⟨a, v⟩ := e
    cases m with
    | nil => simp [slotsWf]
    | cons e2 m =>
      obtain ⟨b, w⟩ := e2
      simp only [slotsWf, Bool.and_eq_true, decide_eq_true_eq, ih, List.map_cons, List.pairwise_cons, List.mem_cons,
        forall_eq_or_imp, List.mem_map, forall_exists_index, and_imp]
      constructor
      · rintro ⟨hab, ⟨hb, hp⟩, hbs, hs⟩
        exact ⟨⟨⟨hab, fun x y hy hx => by have := hb x y hy hx; omega⟩, hb, hp⟩, by omega, hbs, hs⟩
      · rintro ⟨⟨⟨hab, -⟩, hb, hp⟩, -, hbs, hs⟩
        exact ⟨hab, ⟨hb, hp⟩, hbs, hs⟩

/-- A canonical store lists as many records as there are indices below its size that hold one. -/
theorem length_written {size : Nat} {m : List (Nat × α)} (h : slotsWf size m = true) [DecidableEq α] :
    ((List.range size).filter fun i => decide (slotGet m i ≠ none)).length = m.length := by
  obtain ⟨rising, below⟩ := (slotsWf_iff size m).1 h
  have holds : ∀ (l : List (Nat × α)) i, slotGet l i ≠ none ↔ i ∈ l.map Prod.fst := by
    intro l i
    induction l with
    | nil => simp [slotGet]
    | cons e l ih => simp only [slotGet, List.map_cons, List.mem_cons]; split <;> simp_all
  rw [← List.length_map (as := m) Prod.fst]
  apply List.Perm.length_eq
  rw [List.perm_ext_iff_of_nodup (List.Nodup.filter _ List.nodup_range) (rising.imp Nat.ne_of_lt)]
  intro i
  simp only [List.mem_filter, List.mem_range, decide_eq_true_eq, holds, and_iff_right_iff_imp]
  intro hi
  obtain ⟨e, he, rfl⟩ := List.mem_map.1 hi
  exact below e he

theorem mem_slotSet_fst {m : List (Nat × α)} {i : Nat} {x : α} {e : Nat × α} (h : e ∈ slotSet m i x) :
    e.1 = i ∨ e ∈ m := by
  induction m with
  | nil => simp [slotSet] at h; exact .inl (by simp [h])
  | cons f m ih =>
    obtain ⟨b, w⟩ := f
    simp only [slotSet] at h
    split at h
    · simp only [List.mem_cons] at h ⊢
      rcases h with rfl | h | h
      · exact .inl rfl
      · exact .inr (.inl h)
      · exact .inr (.inr h)
    · split at h
      · simp only [List.mem_cons] at h ⊢
        rcases h with rfl | h
        · exact .inl rfl
        · exact .inr (.inr h)
      · simp only [List.mem_cons] at h ⊢
        rcases h with h | h
        · exact .inr (.inl h)
        · rcases ih h with h | h
          · exact .inl h
          · exact .inr (.inr h)

/-- Writing an index below the size keeps the canonical form. -/
theorem slotsWf_slotSet {size : Nat} {m : List (Nat × α)} {i : Nat} (x : α) (hi : i < size)
    (h : slotsWf size m = true) : slotsWf size (slotSet m i x) = true := by
  rw [slotsWf_iff] at h ⊢
  refine ⟨?_, fun e he => ?_⟩
  · induction m with
    | nil => simp [slotSet]
    | cons f m ih =>
      obtain ⟨b, w⟩ := f
      simp only [List.map_cons, List.pairwise_cons, List.mem_map, List.mem_cons, forall_exists_index, and_imp,
        forall_eq_or_imp] at h
      obtain ⟨⟨hb, hp⟩, hbs, hs⟩ := h
      simp only [slotSet]
      split
      · rename_i hlt
        simp only [List.map_cons, List.pairwise_cons, List.mem_cons, List.mem_map, forall_eq_or_imp,
          forall_exists_index, and_imp]
        exact ⟨⟨hlt, fun y z hz hy => by have := hb y z hz hy; omega⟩, hb, hp⟩
      · split
        · rename_i hne heq
          subst heq
          simp only [List.map_cons, List.pairwise_cons, List.mem_map, forall_exists_index, and_imp]
          exact ⟨hb, hp⟩
        · rename_i h1 h2
          simp only [List.map_cons, List.pairwise_cons, List.mem_map, forall_exists_index, and_imp]
          refine ⟨fun y z hz hy => ?_, ih ⟨hp, hs⟩⟩
          rcases mem_slotSet_fst hz with hz | hz
          · omega
          · exact hb y z hz hy
  · rcases mem_slotSet_fst he with he | he
    · omega
    · exact h.2 e he

/-- Erasing an index keeps the canonical form. -/
theorem slotsWf_slotErase {size : Nat} {m : List (Nat × α)} (i : Nat) (h : slotsWf size m = true) :
    slotsWf size (slotErase m i) = true := by
  rw [slotsWf_iff] at h ⊢
  refine ⟨h.1.sublist ((List.filter_sublist).map _), fun e he => h.2 e (List.mem_of_mem_filter he)⟩

/-- A burst whose positions fall below the size keeps the canonical form. -/
theorem slotsWf_writePositions {size : Nat} {slotOf : Nat → Nat} (hs : ∀ k, slotOf k < size)
    (ps : List (Option CarriedRecord)) (k : Nat) (m : List (Nat × CurveRecord)) (h : slotsWf size m = true) :
    slotsWf size (writePositions slotOf k ps m) = true := by
  induction ps generalizing k m with
  | nil => exact h
  | cons p ps ih =>
    cases p with
    | none => exact ih (k + 1) m h
    | some c => exact ih (k + 1) _ (slotsWf_slotSet _ (hs k) h)

theorem slotOfLong_lt {group : Nat} (h : group ≤ 63) (start k : Nat) : slotOfLong group start k < 512 := by
  unfold slotOfLong; omega

theorem slotOfShort_lt {group start : Nat} (h : group ≤ 63) (h2 : start ≤ 7) (k : Nat) :
    slotOfShort group start k < 512 := by
  unfold slotOfShort; omega

/-! ### Banks -/

@[simp] theorem bankOf_setBank_same (c : CurveStore) (b : Fin 4) (x : Bank) : bankOf (setBank c b x) b = x := by
  fin_cases b <;> rfl

theorem bankOf_setBank_other (c : CurveStore) {b b' : Fin 4} (x : Bank) (h : b' ≠ b) :
    bankOf (setBank c b x) b' = bankOf c b' := by
  fin_cases b <;> fin_cases b' <;> first | exact absurd rfl h | rfl

@[simp] theorem setBank_staged (c : CurveStore) (b : Fin 4) (x : Bank) : (setBank c b x).staged = c.staged := by
  fin_cases b <;> rfl

@[simp] theorem setBank_verifier (c : CurveStore) (b : Fin 4) (x : Bank) : (setBank c b x).verifier = c.verifier := by
  fin_cases b <;> rfl

@[simp] theorem setBank_interruptions (c : CurveStore) (b : Fin 4) (x : Bank) :
    (setBank c b x).interruptions = c.interruptions := by
  fin_cases b <;> rfl

/-- Some bank is OPENING exactly when one of the four is. -/
theorem someOpening_iff (c : CurveStore) : someOpening c = true ↔ ∃ b, (bankOf c b).state = .opening := by
  simp [someOpening, Fin.exists_fin_succ, bankOf, or_assoc]

/-! ### The canonical form at reset -/

theorem reset_memory_wf : Memory.wf State.reset = true := by decide

end Sys2Proof.Machine
end

