-- ==== Sys2Proof/Laws/Reports.lean ====
section
/-! SUPPORT. A frame placed in an own-frame queue stays there, or is sent, through every further placing of frames, and
a report placed stands where R163 puts it. -/

namespace Sys2Proof.Machine

open Sys2Proof.Safety

/-- A count of dropped frames has passed a bound, or holds at 65,535. -/
def DropsPast (x : Nat) (p : PortState) : Prop := x ≤ p.ownDrop ∨ 65535 ≤ p.ownDrop

/-- A port with frames placed: what it was sending it sends, what waited in its own-frame queue waits there or is
sent, and its count of dropped own frames has not fallen. -/
structure PortGrows (p q : PortState) : Prop where
  sending : ∀ f, p.sending = some f → q.sending = some f
  own : ∀ f ∈ p.own, f ∈ q.own ∨ q.sending = some f
  drops : ∀ x, DropsPast x p → DropsPast x q

theorem PortGrows.refl (p : PortState) : PortGrows p p := ⟨fun _ h => h, fun _ h => .inl h, fun _ h => h⟩

theorem PortGrows.trans {p q r : PortState} (h1 : PortGrows p q) (h2 : PortGrows q r) : PortGrows p r :=
  ⟨fun f h => h2.sending f (h1.sending f h),
    fun f h => (h1.own f h).elim (h2.own f) fun h' => .inr (h2.sending f h'), fun x h => h2.drops x (h1.drops x h)⟩

/-- The arbiter keeps the own frames, waiting or sent (R158). -/
theorem portGrows_arbitrate (p : PortState) : PortGrows p (arbitrate p) := by
  obtain ⟨fwd, own, sending, streak, n1, n2, n3, n4⟩ := p
  cases sending with
  | some x => exact .refl _
  | none =>
    cases fwd <;> cases own <;> simp only [arbitrate] <;>
      (try split) <;> exact ⟨by simp, by simp +contextual [or_comm], fun _ h => h⟩

theorem portGrows_joinForward (f : Frame) (p : PortState) : PortGrows p (joinForward f p) := by
  unfold joinForward
  split
  · exact (show PortGrows p { p with fwd := p.fwd ++ [f] } from ⟨fun _ h => h, fun _ h => .inl h, fun _ h => h⟩).trans
      (portGrows_arbitrate _)
  · exact ⟨fun _ h => h, fun _ h => .inl h, fun _ h => h⟩

theorem portGrows_joinOwn (f : Frame) (p : PortState) : PortGrows p (joinOwn f p) := by
  unfold joinOwn
  split
  · exact (show PortGrows p { p with own := p.own ++ [f] } from
      ⟨fun _ h => h, fun _ h => .inl (by simp [h]), fun _ h => h⟩).trans (portGrows_arbitrate _)
  · exact ⟨fun _ h => h, fun _ h => .inl h, fun x h => by simp only [DropsPast, count16] at *; omega⟩

/-- A frame that joins an own-frame queue is there, is sent, or is counted as dropped (R157). -/
theorem joinOwn_placed (f : Frame) (p : PortState) :
    (joinOwn f p).sending = some f ∨ f ∈ (joinOwn f p).own ∨ DropsPast (p.ownDrop + 1) (joinOwn f p) := by
  unfold joinOwn
  split
  · have h := (portGrows_arbitrate { p with own := p.own ++ [f] }).own f (by simp)
    exact h.elim (fun h => .inr (.inl h)) .inl
  · refine .inr (.inr ?_)
    simp only [DropsPast, count16]
    omega

/-- Both ports with frames placed, the upstream port and the node address standing. -/
structure Grows (s t : State) : Prop where
  port : ∀ p, PortGrows (portOf s.line p) (portOf t.line p)
  upstream : t.line.upstream = s.line.upstream
  address : t.line.address = s.line.address

theorem Grows.ofEq {s t : State} (h : t.line = s.line) : Grows s t :=
  ⟨fun p => by rw [h]; exact .refl _, by rw [h], by rw [h]⟩

theorem Grows.trans {s t u : State} (h1 : Grows s t) (h2 : Grows t u) : Grows s u :=
  ⟨fun p => (h1.port p).trans (h2.port p), h2.upstream.trans h1.upstream, h2.address.trans h1.address⟩

theorem grows_onPort {p : Port} {f : PortState → PortState} (hf : ∀ x, PortGrows x (f x)) (s : State) :
    Grows s (onPort p f s) := by
  refine ⟨fun q => ?_, by simp, by simp⟩
  by_cases h : q = p
  · subst h; simpa [onPort] using hf _
  · simpa [onPort, portOf_setPort_other _ _ h] using PortGrows.refl _

theorem grows_forward (p : Port) (h : Header) (b : Body) (s : State) : Grows s (forward p h b s) :=
  grows_onPort (portGrows_joinForward _) s

theorem grows_sendReply (p : Port) (source : Byte) (tag : Word16) (code : Byte) (result : ResultCode)
    (payload : ReplyPayload) (s : State) : Grows s (sendReply p source tag code result payload s) :=
  grows_onPort (portGrows_joinOwn _) s

theorem grows_sendReport (r : Report) (s : State) : Grows s (sendReport r s) := by
  unfold sendReport
  split
  · exact (grows_onPort (portGrows_joinOwn _) s).trans ⟨fun p => by cases p <;> exact .refl _, rfl, rfl⟩
  · exact ((grows_onPort (portGrows_joinOwn _) s).trans (grows_onPort (portGrows_joinOwn _) _)).trans
      ⟨fun p => by cases p <;> exact .refl _, rfl, rfl⟩

theorem grows_answerHold (o : SettleOutcome) (s : State) : Grows s (answerHold o s) := by
  unfold answerHold
  split
  · exact .ofEq rfl
  · next p _ => exact (Grows.ofEq (s := s) (t := { s with holdReply := none }) rfl).trans (grows_sendReply ..)

theorem grows_completeAudit (c : Completion) (s : State) : Grows s (completeAudit c s) := by
  unfold completeAudit
  split
  · exact .ofEq rfl
  · exact .ofEq rfl
  · next r _ _ =>
      exact (Grows.ofEq (s := s) (t := { s with
        audit := { s.audit with record := some { r with completion := c }, pending := none, valid := true } })
        rfl).trans (grows_sendReport ..)

theorem grows_auditAnswer (seq : Byte) (stroke angle : Int) (status : AckStatus) (s : State) :
    Grows s (auditAnswer seq stroke angle status s) := by
  unfold auditAnswer
  split
  · split
    · exact grows_completeAudit _ _
    · exact .ofEq rfl
  · exact .ofEq rfl

theorem grows_auditHandover (sum : StepSummary) (d : Drive) (s : State) : Grows s (auditHandover sum d s) := by
  unfold auditHandover
  rw [auditCount_eq]
  exact (grows_completeAudit .noAck s).trans (.ofEq rfl)

theorem grows_runStages (g : Stages) (pa : PositionAnswer) (ra : RouteAnswer) (s : State) :
    Grows s (runStages g pa ra s) := by
  unfold runStages
  dsimp only
  split
  · exact (Grows.ofEq (s := s) (t := { s with demand := stagedDemand s.params g s.demand }) rfl).trans (grows_sendReport ..)
  · exact .ofEq rfl

/-! ### Reports -/

/-- A report sent is placed, under the tag it uses (R163). -/
theorem sendReport_placed (r : Report) (s : State) : ReportPlaced s (sendReport r s) s.line.reportTag r := by
  have key : ∀ {x : PortState} {f : Frame}, (joinOwn f x).sending = some f ∨ f ∈ (joinOwn f x).own
      ∨ x.ownDrop < (joinOwn f x).ownDrop ∨ 65535 ≤ (joinOwn f x).ownDrop := by
    intro x f
    exact (joinOwn_placed f x).imp id (Or.imp id fun h => h)
  unfold sendReport
  split
  · next p h =>
    intro q hq
    have hqp : q = p := by
      rcases hq with hq | hq
      · simp [nextReportTag, h] at hq
      · simpa [nextReportTag, h] using hq.symm
    subst hqp
    have hp : portOf (nextReportTag (onPort q (joinOwn (reportFrame s r)) s)).line q
        = joinOwn (reportFrame s r) (portOf s.line q) := by cases q <;> rfl
    have ha : (nextReportTag (onPort q (joinOwn (reportFrame s r)) s)).line.address = s.line.address := by
      simp [nextReportTag]
    simp only [hp, ha]
    exact key
  · intro q _
    have hp : portOf (nextReportTag (onPort .b (joinOwn (reportFrame s r))
        (onPort .a (joinOwn (reportFrame s r)) s))).line q = joinOwn (reportFrame s r) (portOf s.line q) := by
      cases q <;> rfl
    have ha : (nextReportTag (onPort .b (joinOwn (reportFrame s r))
        (onPort .a (joinOwn (reportFrame s r)) s))).line.address = s.line.address := by simp [nextReportTag]
    simp only [hp, ha]
    exact key

/-- A report placed stays placed while further frames are placed. -/
theorem reportPlaced_grows {s t u : State} {tag : Word16} {r : Report} (h : ReportPlaced s t tag r) (g : Grows t u) :
    ReportPlaced s u tag r := by
  intro p hp
  rw [g.upstream] at hp
  rw [g.address]
  have h1 := g.port p
  rcases h p hp with h | h | h
  · exact .inl (h1.sending _ h)
  · exact (h1.own _ h).elim (fun h => .inr (.inl h)) .inl
  · exact .inr (.inr (h1.drops _ h))

/-- A report placed since a later state is placed since an earlier one, no count of drops having fallen between. -/
theorem reportPlaced_since {s t u : State} {tag : Word16} {r : Report}
    (g : ∀ p x, DropsPast x (portOf s.line p) → DropsPast x (portOf t.line p)) (h : ReportPlaced t u tag r) :
    ReportPlaced s u tag r := by
  intro p hp
  rcases h p hp with h | h | h
  · exact .inl h
  · exact .inr (.inl h)
  · have := g p _ (.inl (Nat.le_refl _))
    refine .inr (.inr ?_)
    simp only [DropsPast] at this
    omega

end Sys2Proof.Machine
end

