-- ==== Sys2Proof/Laws/Requests.lean ====
section
/-! SUPPORT. What the receiving of a request can do, said once: dropped under the mask, passed on, refused LEVEL, or
handed to its owner and answered (R155, R161, R167). -/

namespace Sys2Proof.Machine

open Sys2Proof.Safety

@[simp] theorem effectiveLevel_countReceived (p q : Port) (h : Header) (s : State) :
    effectiveLevel (countReceived q s) p h = effectiveLevel s p h := by
  cases p <;> simp [effectiveLevel, floorOf]

@[simp] theorem trailMasked_countReceived (p q : Port) (s : State) :
    trailMasked (countReceived q s) p = trailMasked s p := by simp [trailMasked]

@[simp] theorem takesRequest_countReceived (q : Port) (d : Byte) (s : State) :
    takesRequest (countReceived q s) d = takesRequest s d := by simp [takesRequest]

/-- Every field of the state but the line is as it was once the request is counted. -/
theorem requestCounted_eq (port : Port) (s : State) :
    requestCounted port s = { s with line := (requestCounted port s).line } := rfl

@[simp] theorem requestCounted_clock (port : Port) (s : State) : (requestCounted port s).clock = s.clock := rfl
@[simp] theorem requestCounted_pos (port : Port) (s : State) : (requestCounted port s).pos = s.pos := rfl
@[simp] theorem requestCounted_params (port : Port) (s : State) : (requestCounted port s).params = s.params := rfl
@[simp] theorem requestCounted_walker (port : Port) (s : State) : (requestCounted port s).walker = s.walker := rfl
@[simp] theorem requestCounted_look (port : Port) (s : State) : (requestCounted port s).look = s.look := rfl
@[simp] theorem requestCounted_store (port : Port) (s : State) : (requestCounted port s).store = s.store := rfl
@[simp] theorem requestCounted_queue (port : Port) (s : State) : (requestCounted port s).queue = s.queue := rfl
@[simp] theorem requestCounted_demand (port : Port) (s : State) : (requestCounted port s).demand = s.demand := rfl
@[simp] theorem requestCounted_mode (port : Port) (s : State) : (requestCounted port s).mode = s.mode := rfl
@[simp] theorem requestCounted_holdReply (port : Port) (s : State) :
    (requestCounted port s).holdReply = s.holdReply := rfl
@[simp] theorem requestCounted_drive (port : Port) (s : State) : (requestCounted port s).drive = s.drive := rfl
@[simp] theorem requestCounted_strokes (port : Port) (s : State) : (requestCounted port s).strokes = s.strokes := rfl
@[simp] theorem requestCounted_audit (port : Port) (s : State) : (requestCounted port s).audit = s.audit := rfl
@[simp] theorem requestCounted_freeCount (port : Port) (s : State) :
    (requestCounted port s).freeCount = s.freeCount := rfl
@[simp] theorem requestCounted_pending (port : Port) (s : State) : (requestCounted port s).pending = s.pending := rfl
@[simp] theorem requestCounted_held (port : Port) (s : State) : (requestCounted port s).held = s.held := rfl
@[simp] theorem requestCounted_line_upstream (port : Port) (s : State) :
    (requestCounted port s).line.upstream = s.line.upstream := by simp [requestCounted]
@[simp] theorem requestCounted_line_address (port : Port) (s : State) :
    (requestCounted port s).line.address = s.line.address := by simp [requestCounted]
@[simp] theorem requestCounted_line_masked (port : Port) (s : State) :
    (requestCounted port s).line.masked = s.line.masked := by simp [requestCounted]
@[simp] theorem requestCounted_line_floorA (port : Port) (s : State) :
    (requestCounted port s).line.floorA = s.line.floorA := by simp [requestCounted]
@[simp] theorem requestCounted_line_floorB (port : Port) (s : State) :
    (requestCounted port s).line.floorB = s.line.floorB := by simp [requestCounted]
@[simp] theorem requestCounted_line_levelRefusals (port : Port) (s : State) :
    (requestCounted port s).line.levelRefusals = s.line.levelRefusals := by simp [requestCounted]

@[simp] theorem effectiveLevel_requestCounted (p q : Port) (h : Header) (s : State) :
    effectiveLevel (requestCounted q s) p h = effectiveLevel s p h := by
  cases p <;> simp [effectiveLevel, floorOf]

/-- The taking of a counted request: LEVEL, or the owner's action and its reply (R161). -/
theorem takeRequest_counted (row : RequestRow) (port : Port) (h : Header) (args : List Byte) (s : State) :
    takeRequest row port h args (countReceived port s) =
      if row.required < effectiveLevel s port h then
        sendReply port h.source h.tag row.code .level .empty
          { requestCounted port s with
            line := { (requestCounted port s).line with
              levelRefusals := count16 (requestCounted port s).line.levelRefusals } }
      else
        match row.take { port := port, h := h, args := args, level := effectiveLevel s port h }
          (requestCounted port s) with
        | (t, some (result, payload)) => sendReply port h.source h.tag row.code result payload t
        | (t, none) => t := by
  rw [← effectiveLevel_requestCounted port port h s]; rfl

/-- An admitted request is taken, and a broadcast forwarded after it (R155). -/
theorem receiveRequest_taken {port : Port} {h : Header} {s : State} {taking : State → State} {payload : List Byte}
    (h1 : trailMasked s port = false) (h2 : takesRequest s h.dest = true)
    (hl : (taking (countReceived port s)).line.address = s.line.address) :
    receiveRequest taking port h payload s = passBroadcast port h payload (taking (countReceived port s)) := by
  simp [receiveRequest, h1, h2, passBroadcast, hl]

/-- A request that reaches its owner with an answer: the owner's action on the counted state, its reply, and the
forwarded copy of a broadcast. No owner changes the node address. -/
theorem receiveRow_answered {row : RequestRow} {port : Port} {h : Header} {args : List Byte} {s t : State}
    {result : ResultCode} {payload : ReplyPayload} (ha : Admitted s port h row.required)
    (ht : row.take { port := port, h := h, args := args, level := effectiveLevel s port h } (requestCounted port s)
      = (t, some (result, payload))) (hl : t.line.address = s.line.address) :
    receiveRow row port h args s = concludeRequest port h row.code args result payload t := by
  obtain ⟨-, h1, h2, h3⟩ := ha
  have hk : takeRequest row port h args (countReceived port s)
      = sendReply port h.source h.tag row.code result payload t := by
    rw [takeRequest_counted, if_neg (by omega), ht]
  rw [receiveRow, receiveRequest_taken h1 h2 (by simp [hk, hl]), hk, concludeRequest]

/-- A request that reaches its owner and whose reply is deferred. -/
theorem receiveRow_deferred {row : RequestRow} {port : Port} {h : Header} {args : List Byte} {s t : State}
    (ha : Admitted s port h row.required)
    (ht : row.take { port := port, h := h, args := args, level := effectiveLevel s port h } (requestCounted port s)
      = (t, none)) (hl : t.line.address = s.line.address) :
    receiveRow row port h args s = passBroadcast port h (row.code :: args) t := by
  obtain ⟨-, h1, h2, h3⟩ := ha
  have hk : takeRequest row port h args (countReceived port s) = t := by
    rw [takeRequest_counted, if_neg (by omega), ht]
  rw [receiveRow, receiveRequest_taken h1 h2 (by simp [hk, hl]), hk]

/-- A request refused LEVEL (R161 stage 2). -/
theorem receiveRow_refused {row : RequestRow} {port : Port} {h : Header} {args : List Byte} {s : State}
    (h1 : trailMasked s port = false) (h2 : takesRequest s h.dest = true)
    (h3 : row.required < effectiveLevel s port h) :
    receiveRow row port h args s = concludeRequest port h row.code args .level .empty
      { requestCounted port s with
        line := { (requestCounted port s).line with
          levelRefusals := count16 (requestCounted port s).line.levelRefusals } } := by
  have hk := takeRequest_counted row port h args s
  rw [if_pos h3] at hk
  rw [receiveRow, receiveRequest_taken h1 h2 (by rw [hk]; simp), hk, concludeRequest]

/-- Under the TRAIL_REQUESTS mask a request is dropped and counted, whatever its taking would be (R167). -/
theorem receiveRequest_masked {port : Port} {s : State} (h1 : trailMasked s port = true) (taking : State → State)
    (h : Header) (payload : List Byte) :
    receiveRequest taking port h payload s =
      { countReceived port s with
        line := { (countReceived port s).line with
          trailDrop := count16 (countReceived port s).line.trailDrop } } := by
  simp only [receiveRequest, trailMasked_countReceived, h1, if_true]

/-- A request for another node is passed on and not taken (R155). -/
theorem receiveRequest_passed {port : Port} {s : State} {h : Header} (h1 : trailMasked s port = false)
    (h2 : takesRequest s h.dest = false) (taking : State → State) (payload : List Byte) :
    receiveRequest taking port h payload s = forward port h (.request payload) (countReceived port s) := by
  have h3 : s.line.address ≠ some h.dest := by
    intro h3; simp [takesRequest, h3] at h2
  simp [receiveRequest, h1, h2, h3]

end Sys2Proof.Machine
end

