-- ==== Sys2Proof/Laws/Steps.lean ====
section
/-! SUPPORT. How a property is carried over a command and over a step: it is enough that each block's own action keeps
it, when it reads nothing of the line's queues and counts. -/

namespace Sys2Proof.Machine

/-- A property that reads neither the line's queues and counts nor the hold of device reset nor the count of free
values. -/
structure LineBlind (P : State → Prop) : Prop where
  line : ∀ (s : State) (l : LineInterface), l.upstream = s.line.upstream → l.address = s.line.address →
    l.masked = s.line.masked → l.floorA = s.line.floorA → l.floorB = s.line.floorB → P s → P { s with line := l }
  held : ∀ (s : State) (b : Bool), P s → P { s with held := b }
  free : ∀ (s : State) (n : Nat), P s → P { s with freeCount := n }

/-- A property that reads neither the present instant nor the waiting commands. -/
structure TimeBlind (P : State → Prop) : Prop where
  now : ∀ (s : State) (t : Nat), P s → P { s with clock := { s.clock with now := t } }
  pending : ∀ (s : State) (l : List Instr), P s → P { s with pending := l }

namespace LineBlind

variable {P : State → Prop} (hb : LineBlind P)

include hb

theorem onPort {p : Port} {f : PortState → PortState} {s : State} (h : P s) : P (Machine.onPort p f s) :=
  hb.line s _ (by simp) (by simp) (by simp) (by simp) (by simp) h

theorem forward {p : Port} {h : Header} {b : Body} {s : State} (hs : P s) : P (Machine.forward p h b s) :=
  hb.onPort hs

theorem countReceived {p : Port} {s : State} (hs : P s) : P (Machine.countReceived p s) := hb.onPort hs

theorem sendReply {p : Port} {source : Byte} {tag : Word16} {code : Byte} {result : ResultCode}
    {payload : ReplyPayload} {s : State} (hs : P s) : P (Machine.sendReply p source tag code result payload s) :=
  hb.onPort hs

theorem sendReport {r : Report} {s : State} (hs : P s) : P (Machine.sendReport r s) := by
  rw [sendReport_eq]
  exact hb.line s _ (by simp) (by simp) (by simp) (by simp) (by simp) hs

theorem takeRequest {row : RequestRow} (hrow : ∀ r s, P s → P (row.take r s).1) {p : Port} {h : Header}
    {args : List Byte} {s : State} (hs : P s) : P (Machine.takeRequest row p h args s) := by
  unfold Machine.takeRequest
  dsimp only
  split
  · exact hb.sendReply (hb.line s _ rfl rfl rfl rfl rfl hs)
  · have h0 : P { s with line := { s.line with requestsTaken := count16 s.line.requestsTaken } } :=
      hb.line s _ rfl rfl rfl rfl rfl hs
    have h1 := hrow { port := p, h := h, args := args,
                      level := effectiveLevel { s with
                        line := { s.line with requestsTaken := count16 s.line.requestsTaken } } p h } _ h0
    split
    · next heq => rw [heq] at h1; exact hb.sendReply h1
    · next heq => rw [heq] at h1; exact h1

theorem takeUnknown {p : Port} {h : Header} {payload : List Byte} {s : State} (hs : P s) :
    P (Machine.takeUnknown p h payload s) := by
  unfold Machine.takeUnknown
  have h0 : P { s with line := { s.line with requestsTaken := count16 s.line.requestsTaken } } :=
    hb.line s _ rfl rfl rfl rfl rfl hs
  dsimp only
  split
  · exact hb.sendReply h0
  · exact hb.sendReply (hb.free _ _ h0)

theorem receiveRequest {taking : State → State} (ht : ∀ s, P s → P (taking s)) {p : Port} {h : Header}
    {payload : List Byte} {s : State} (hs : P s) : P (Machine.receiveRequest taking p h payload s) := by
  have h1 : P (Machine.countReceived p s) := hb.countReceived hs
  unfold Machine.receiveRequest
  dsimp only
  split
  · exact hb.line (Machine.countReceived p s) _ rfl rfl rfl rfl rfl h1
  · have h2 : P (if takesRequest (Machine.countReceived p s) h.dest then taking (Machine.countReceived p s)
        else Machine.countReceived p s) := by
      split
      · exact ht _ h1
      · exact h1
    split
    · exact h2
    · exact hb.forward h2

/-- A command keeps a property that each block's own action keeps. -/
theorem exec (hrow : ∀ row ∈ catalogue, ∀ r s, P s → P (row.take r s).1)
    (hreset : ∀ straps s, P s → P (releaseReset straps s))
    (hodo : ∀ p hop c v d s, P s → P (takeOdometry p hop c v d s)) (hexp : ∀ s, P s → P (watchdogExpiry s))
    (hfix : ∀ p b x a v s, P s → P (takeFix p b x a v s).1) (hsample : ∀ p e s, P s → P (takeSample p e s))
    (hsense : ∀ a f s, P s → P (senseFrame a f s)) (hack : ∀ q x st s, P s → P (receiveAck q x st s))
    (hstep : ∀ s, P s → P (runStep s)) (hverify : ∀ s, P s → P (verifyCompletes s))
    {c : Instr} {s t : State} (hs : P s) (he : Machine.exec c s = .next t) : P t := by
  have hr : ∀ row ∈ catalogue, ∀ p h args, P (receiveRow row p h args s) := fun row hm p h args =>
    hb.receiveRequest (fun _ h' => hb.takeRequest (hrow row hm) h') hs
  have hp : ∀ p h payload s, P s → P (takePayload p h payload s) := by
    intro p h payload s hs
    unfold takePayload
    split
    · exact hb.takeUnknown hs
    · split
      · next row hf => exact hb.takeRequest (hrow row (List.mem_of_find?_eq_some hf)) hs
      · exact hb.takeUnknown hs
  have hu : ∀ {f : State → State}, unlessHeld f s = .next t → P (f s) → P t := by
    intro f h hf
    rw [unlessHeld] at h
    injection h with h
    subst h
    split
    · exact hs
    · exact hf
  cases c
  case deviceReset e =>
    cases e <;> injection he with he <;> subst he
    · exact hb.held _ _ (hreset _ _ hs)
    · exact hreset _ _ hs
  case frameForward p h body =>
    cases body
    · exact hu he (hb.receiveRequest (fun _ h' => hp _ _ _ _ h') hs)
    · exact hu he (hb.forward (hb.countReceived hs))
  case odometry => exact hu he (hb.forward (hodo _ _ _ _ _ _ (hb.countReceived hs)))
  case odoLost => exact hu he (hexp _ hs)
  case fix => exact hu he (hb.forward (hfix _ _ _ _ _ _ (hb.countReceived hs)))
  case sample => exact hu he (hb.forward (hsample _ _ _ (hb.countReceived hs)))
  case sense => exact hu he (hsense _ _ _ hs)
  case localFrameDiscard => injection he with he; subst he; exact hs
  case driveAck => exact hu he (hack _ _ _ _ hs)
  case stepExpiry => exact hu he (hstep _ hs)
  case verifyCompletion => exact hu he (hverify _ hs)
  case transmissionCompletion => exact hu he (hb.onPort hs)
  case checkError => exact hu he (hb.onPort hs)
  case trailDrop => exact hu he (hb.receiveRequest (fun _ h' => hp _ _ _ _ h') hs)
  case requestUnknown => exact hu he (hb.receiveRequest (fun _ h' => hb.takeUnknown h') hs)
  all_goals exact hu he (hr _ (by simp [catalogue]) _ _ _)

/-- A step keeps a property that every command keeps. -/
theorem step (ht : TimeBlind P) (hexec : ∀ c s t, P s → Machine.exec c s = .next t → P t) {s t : State} (hs : P s)
    (he : Machine.step s = .next t) : P t := by
  unfold Machine.step at he
  split at he
  · exact hexec _ _ _ (ht.pending _ _ hs) he
  · unfold idle at he
    split at he
    · injection he with he; subst he; exact ht.now _ _ hs
    · exact hexec _ _ _ hs he
    · exact hexec _ _ _ (hb.free _ _ hs) he

end LineBlind

end Sys2Proof.Machine
end

