-- ==== Sys2Proof/Tests/Slice0.lean ====
section
/-! SUPPORT. The model's own tests: ill-formed commands refused, bytes decoded, single commands on small states
with the results of the spec's worked examples, and for every statement with hypotheses a witness of them. -/

namespace Sys2Proof.Tests

set_option Elab.async false

open Sys2Proof.Machine Sys2Proof.Safety

/-! ### Helpers -/

/-- The state a command leaves. -/
def after (c : Instr) (s : State) : State :=
  match exec c s with
  | .next t => t
  | _ => s

/-- An envelope to node 3 from the supervisor, at a level. -/
def toNode (level : Byte) : Header := { dest := 3#8, source := 17#8, level := level, tag := 258#16, hop := 1#8 }

/-- An envelope to every node, at level 0. -/
def toAll : Header := { dest := 0#8, source := 17#8, level := 0#8, tag := 258#16, hop := 1#8 }

/-- An envelope to node 4. -/
def toOther : Header := { toAll with dest := 4#8 }

/-- Node 3 after device reset. -/
def fresh : State := { State.reset with line := { State.reset.line with address := some 3#8 } }

/-- Node 3 with upstream port A. -/
def faced : State := { fresh with line := { fresh.line with upstream := some .a } }

/-- Node 3, with a port's state in place of port A's. -/
def withPortA (p : PortState) : State := { faced with line := { faced.line with portA := p } }

/-- Car 3 of 1.6: a follower with its offsets. -/
def car3 : State := { fresh with params := { fresh.params with offsetA := 1200, offsetB := 2400 } }

/-- An ODOMETRY frame of 1.6 on port A, hop 2. -/
def odoA (chainage : Word24) (speed : Word16) : Instr := .odometry .a { toAll with hop := 2#8 } chainage speed 0#8 []

/-- A FIX frame on port A. -/
def fixA (beacon passage : Word24) (accuracy verdict : Byte) : Instr := .fix .a toAll beacon passage accuracy verdict []

/-- The mode controller's part of a state replaced. -/
def inMode (s : State) (m : ModeController) : State := { s with mode := m }

/-- The payload of the reply that port A is sending. -/
def replyA (s : State) : Option (ResultCode × ReplyPayload) :=
  match s.line.portA.sending with
  | some { body := .reply _ result payload, .. } => some (result, payload)
  | _ => none

/-- The result code of the reply that port A is sending. -/
def resultA (s : State) : Option ResultCode := (replyA s).map Prod.fst

/-! ### Well-formedness: one ill-formed command for each check -/

theorem test_wf_odometry_longest :
    wellFormed (.odometry .a toAll 0#24 0#16 0#8 (List.replicate 90 0#8)) = true
      ∧ wellFormed (.odometry .a toAll 0#24 0#16 0#8 (List.replicate 91 0#8)) = false := by decide +kernel

theorem test_wf_fix_longest :
    wellFormed (.fix .a toAll 0#24 0#24 0#8 0#8 (List.replicate 88 0#8)) = true
      ∧ wellFormed (.fix .a toAll 0#24 0#24 0#8 0#8 (List.replicate 89 0#8)) = false := by decide +kernel

theorem test_wf_sample_longest :
    wellFormed (.sample .a toAll 0#24 0#16 0#8 0#8 (List.replicate 89 0#8)) = true
      ∧ wellFormed (.sample .a toAll 0#24 0#16 0#8 0#8 (List.replicate 90 0#8)) = false := by decide +kernel

/-- R176: good bytes are a discarded frame when they began to arrive before the release of device reset, and only
then. -/
theorem test_cut_frames :
    let bytes := lineBytes 5#8 toAll [17#8, 0#8]
    decodeArrival (.lineCut .a bytes) = some (.checkError .a bytes)
      ∧ decodeLine .a bytes = .frameForward .a toAll (.other 5#8 [17#8, 0#8])
      ∧ encode (.checkError .a bytes) = .lineCut .a bytes ∧ encode (.checkError .a []) = .line .a []
      ∧ encode (.localFrameDiscard .sensor (senseBytes 5#16 1#8)) = .localCut .sensor (senseBytes 5#16 1#8)
      ∧ decodeArrival (.localCut .drive (ackBytes 0#8 15#16 0#8))
        = some (.localFrameDiscard .drive (ackBytes 0#8 15#16 0#8)) := by decide +kernel

/-- The kinds 1 .. 4 are not forwarded as other kinds. -/
theorem test_wf_forward_kinds :
    wellFormed (.frameForward .a toAll (.other 1#8 [])) = false ∧ wellFormed (.frameForward .a toAll (.other 4#8 [])) = false
      ∧ wellFormed (.frameForward .a toAll (.other 0#8 [])) = true
      ∧ wellFormed (.frameForward .a toAll (.other 5#8 [])) = true
      ∧ wellFormed (.frameForward .a toAll (.other 5#8 (List.replicate 97 0#8))) = false
      ∧ wellFormed (.frameForward .a toAll (.request (List.replicate 97 0#8))) = false := by decide +kernel

/-- A code of the catalogue is not unknown, and a payload fits its frame. -/
theorem test_wf_unknown_codes :
    wellFormed (.requestUnknown .a toAll [1#8]) = false ∧ wellFormed (.requestUnknown .a toAll [22#8]) = false
      ∧ wellFormed (.requestUnknown .a toAll [0#8]) = true ∧ wellFormed (.requestUnknown .a toAll [23#8]) = true
      ∧ wellFormed (.requestUnknown .a toAll (List.replicate 97 0#8)) = false
      ∧ wellFormed (.trailDrop .a toAll (List.replicate 97 0#8)) = false := by decide +kernel

/-- The arguments of a request fit beside its code. -/
theorem test_wf_request_longest :
    ∀ c ∈ [Instr.statusRead, .paramSet, .paramRead, .modeSet, .descWrite, .descClear, .descRead, .sectionSelect,
        .loadHead, .loadTail, .bankOpen, .bankClose, .bankErase, .recordRead, .strokeLoad, .strokeRead, .hold, .release,
        .resume, .auditArm, .featureMask, .restart],
      wellFormed (c .a toAll (List.replicate 95 0#8)) = true
        ∧ wellFormed (c .a toAll (List.replicate 96 0#8)) = false := by decide +kernel

/-! ### Decoding: bytes written out from the layouts of chapter 11 -/

/-- The check value of the generator of R175 with a register of 65,535, most significant bit first (the
published check value of this code over the digits 1 .. 9). -/
theorem test_check_sequence :
    checkSequence [0x31#8, 0x32#8, 0x33#8, 0x34#8, 0x35#8, 0x36#8, 0x37#8, 0x38#8, 0x39#8] = 0x29B1#16 := by decide +kernel

/-- 11.2: chainage 500,000 (07 A1 20), speed 5,500 (15 7C), bit 0 of the direction byte set, one further byte. -/
theorem test_decode_odometry :
    decodeLine .b (withCheck [1#8, 0#8, 17#8, 0#8, 0#8, 0#8, 2#8, 7#8,
        0x07#8, 0xA1#8, 0x20#8, 0x15#8, 0x7C#8, 0x81#8, 0xEE#8])
      = .odometry .b ⟨0#8, 17#8, 0#8, 0#16, 2#8⟩ 500000#24 5500#16 0x81#8 [0xEE#8] := by decide +kernel

/-- 11.2: beacon 500,250 (07 A2 1A), passage 500,215 (07 A1 F7), accuracy 5, verdict 1. -/
theorem test_decode_fix :
    decodeLine .a (withCheck [2#8, 0#8, 17#8, 0#8, 1#8, 2#8, 0#8, 8#8,
        0x07#8, 0xA2#8, 0x1A#8, 0x07#8, 0xA1#8, 0xF7#8, 5#8, 1#8])
      = .fix .a ⟨0#8, 17#8, 0#8, 258#16, 0#8⟩ 500250#24 500215#24 5#8 1#8 [] := by decide +kernel

/-- 11.2: chainage 500,031 (07 A1 3F), acceleration −310 (FE CA), valid, sequence 44. -/
theorem test_decode_sample :
    decodeLine .a (withCheck [3#8, 0#8, 1#8, 0#8, 0#8, 0#8, 3#8, 7#8,
        0x07#8, 0xA1#8, 0x3F#8, 0xFE#8, 0xCA#8, 1#8, 44#8])
      = .sample .a ⟨0#8, 1#8, 0#8, 0#16, 3#8⟩ 500031#24 (BitVec.ofInt 16 (-310)) 1#8 44#8 [] := by decide +kernel

/-- 11.2, request codes: 2 is PARAM SET, 12 BANK ERASE, 17 HOLD, 22 RESTART, 23 none of them. -/
theorem test_decode_requests :
    decodeLine .a (withCheck [4#8, 3#8, 17#8, 1#8, 0#8, 9#8, 0#8, 4#8, 2#8, 13#8, 0#8, 10#8])
        = .paramSet .a ⟨3#8, 17#8, 1#8, 9#16, 0#8⟩ [13#8, 0#8, 10#8]
      ∧ decodeLine .a (withCheck [4#8, 3#8, 17#8, 1#8, 0#8, 9#8, 0#8, 2#8, 12#8, 2#8])
        = .bankErase .a ⟨3#8, 17#8, 1#8, 9#16, 0#8⟩ [2#8]
      ∧ decodeLine .a (withCheck [4#8, 0#8, 17#8, 2#8, 0#8, 9#8, 0#8, 1#8, 17#8])
        = .hold .a ⟨0#8, 17#8, 2#8, 9#16, 0#8⟩ []
      ∧ decodeLine .a (withCheck [4#8, 0#8, 17#8, 0#8, 0#8, 9#8, 0#8, 1#8, 22#8])
        = .restart .a ⟨0#8, 17#8, 0#8, 9#16, 0#8⟩ []
      ∧ decodeLine .a (withCheck [4#8, 0#8, 17#8, 0#8, 0#8, 9#8, 0#8, 1#8, 23#8])
        = .requestUnknown .a ⟨0#8, 17#8, 0#8, 9#16, 0#8⟩ [23#8] := by decide +kernel

/-- R155: a REPLY and an unknown kind are passed on; R175: a short ODOMETRY payload is a check error. -/
theorem test_decode_passed :
    decodeLine .b (withCheck [5#8, 17#8, 4#8, 0#8, 0#8, 9#8, 0#8, 2#8, 17#8, 0#8])
        = .frameForward .b ⟨17#8, 4#8, 0#8, 9#16, 0#8⟩ (.other 5#8 [17#8, 0#8])
      ∧ decodeLine .b (withCheck [9#8, 0#8, 4#8, 0#8, 0#8, 9#8, 0#8, 0#8])
        = .frameForward .b ⟨0#8, 4#8, 0#8, 9#16, 0#8⟩ (.other 9#8 [])
      ∧ ∀ bytes ∈ [withCheck [1#8, 0#8, 17#8, 0#8, 0#8, 0#8, 2#8, 5#8, 0x07#8, 0xA1#8, 0x20#8, 0x15#8, 0x7C#8],
            withCheck [5#8, 0#8, 17#8, 0#8, 0#8, 0#8, 2#8, 1#8], [5#8, 0#8, 17#8, 0#8, 0#8, 0#8, 2#8, 0#8, 0#8, 0#8]],
          decodeLine .b bytes = .checkError .b bytes := by decide +kernel

/-- 11.3: SENSE of −310, valid; DRIVE-ACK of sequence 2, stroke 7, END_STOP; the kinds 2 and 3 are not received. -/
theorem test_decode_local :
    decodeSensor (withCheck [1#8, 0xFE#8, 0xCA#8, 1#8]) = .sense (BitVec.ofInt 16 (-310)) 1#8
      ∧ decodeDrive (withCheck [4#8, 2#8, 0#8, 7#8, 1#8]) = .driveAck 2#8 7#16 1#8
      ∧ decodeSensor (withCheck [2#8, 0xFE#8, 0xCA#8, 1#8])
        = .localFrameDiscard .sensor (withCheck [2#8, 0xFE#8, 0xCA#8, 1#8])
      ∧ decodeDrive (withCheck [4#8, 2#8, 0#8, 7#8]) = .localFrameDiscard .drive (withCheck [4#8, 2#8, 0#8, 7#8]) := by
  decide +kernel

/-- No word of the table spells a command. -/
theorem test_no_table_word : decodeTableWord 0 0 = none ∧ fresh.withFetchWord 8 22 = fresh := by decide +kernel

/-! ### Position and fixes (1.6, R3 to R18) -/

/-- R3: a speed above 9,000 is taken as 9,000; R14: the candidate 0 + 65,535 holds at 65,535. -/
theorem test_odometry_first :
    (after (odoA 500000#24 9001#16) car3).pos
      = { fresh.pos with t0 := 500000, v := 9000, seen := true, watchdog := .running } := by decide +kernel

/-- 1.6: the fix gives F = 35, u = 5; 100 ms later 500,055 gives distance 55 and u = 6. -/
theorem test_fix_then_odometry :
    (after (odoA 500055#24 5500#16) (after (fixA 500250#24 500215#24 5#8 1#8) (after (odoA 500000#24 5500#16) car3))).pos
      = { fresh.pos with
          t0 := 500055, v := 5500, seen := true, watchdog := .running, fixOffset := 35, uFix := 5, sinceFix := 55, u := 6
          fixesApplied := 1 } := by decide +kernel

/-- The state of 1.6 before the step query, 40 ms after the last arrival. -/
def queried (ms : Nat) : State := { car3 with
  clock := { car3.clock with now := ms * 2000, arrival := some 0 }
  line := { car3.line with upstream := some .a }
  pos := { car3.pos with
    t0 := 500055, v := 5500, seen := true, watchdog := .running, fixOffset := 35, uFix := 5, sinceFix := 55, u := 6 } }

/-- 1.6: 498,912 at 40 ms, with p = q = 499,077, usable; 499,000 and stale at 250 ms. -/
theorem test_position_query :
    (positionQuery (queried 40)).car = 498912 ∧ (positionQuery (queried 40)).p = 499077
      ∧ (positionQuery (queried 40)).q = 499077 ∧ (positionQuery (queried 40)).usable = true
      ∧ (positionQuery (queried 250)).car = 499000 ∧ (positionQuery (queried 250)).usable = false := by decide +kernel

/-- R13: the watchdog expires into FAULT with cause ODO_LOST. -/
theorem test_odo_lost :
    (after .odoLost (queried 999)).pos.watchdog = .idle ∧ (after .odoLost (queried 999)).mode.firstCause = some .odoLost
      ∧ (after .odoLost (queried 999)).clock.now = 2000000 ∧ after .odoLost car3 = car3 := by decide +kernel

/-- Car 1 of 1.6: lead, F = 35. -/
def car1 (u rejections : Nat) : State := { faced with
  pos := { faced.pos with seen := true, lead := true, fixOffset := 35, uFix := 5, u := u, rejections := rejections } }

/-- 1.6: fixes B and C at the lead; the verdicts written are REJECTED and ACCEPTED. -/
theorem test_fix_decisions :
    (after (fixA 500082#24 500000#24 8#8 0#8) (car1 16 1)).pos = { (car1 16 1).pos with rejections := 2 }
      ∧ ((after (fixA 500082#24 500000#24 8#8 0#8) (car1 16 1)).line.portB.sending.map Frame.body)
        = some (.fix 500082#24 500000#24 8#8 2#8 [])
      ∧ (after (fixA 500081#24 500000#24 6#8 0#8) (car1 21 2)).pos
        = { (car1 21 0).pos with fixOffset := 81, uFix := 6, u := 6, fixesApplied := 1 }
      ∧ ((after (fixA 500081#24 500000#24 6#8 0#8) (car1 21 2)).line.portB.sending.map Frame.body)
        = some (.fix 500081#24 500000#24 6#8 1#8 []) := by decide +kernel

/-- Car 3 of 1.6 at a standstill before the turnaround. -/
def standing : State := { car3 with
  line := { car3.line with upstream := some .a }
  pos := { car3.pos with t0 := 519980, seen := true, watchdog := .running, fixOffset := 81, uFix := 6, u := 6 } }

/-- 1.6: the turnaround leaves the estimate at 518,861 and takes u to 42. -/
theorem test_turnaround :
    let t := after (.odometry .b toAll 516380#24 0#16 1#8 []) standing
    t.line.upstream = some .b ∧ t.pos.sinceFix = 3600 ∧ t.pos.u = 42 ∧ (positionQuery t).car = 518861
      ∧ t.mode.mode = .centring ∧ t.queue.flushes = 1 := by decide +kernel

/-- 1.6: with a speed of 20 the same frame also asks for LINE_TURN. -/
theorem test_turnaround_moving :
    (after (.odometry .b toAll 516380#24 20#16 1#8 []) standing).mode.firstCause = some .lineTurn := by decide +kernel

/-! ### Preview (5.9) -/

/-- Car 1 of 5.9, whose sample chainage is the one given. -/
def sensing (b : Nat) (last : Option Nat) (seq : Byte) : State := { faced with
  pos := { faced.pos with t0 := b, seen := true, lead := true, u := 0 }
  queue := { faced.queue with lastOriginated := last, nextSeq := seq } }

/-- 5.9: the first SENSE frame originates 500,000, +310, sequence 41. -/
theorem test_sense_originates :
    let t := after (.sense 310#16 1#8) (sensing 500000 none 41#8)
    t.queue.entries = [{ chainage := 500000, accel := 310, valid := true, seq := 41#8 }] ∧ t.queue.nextSeq = 42#8
      ∧ t.line.portB.sending.map Frame.body = some (.sample 500000#24 310#16 1#8 41#8 []) := by decide +kernel

/-- 5.9: +6,200 nine decimetres on is clamped to +5,000 and originates nothing. -/
theorem test_sense_clamped :
    (after (.sense 6200#16 1#8) (sensing 500009 (some 500000) 42#8)).queue
      = { (sensing 500009 (some 500000) 42#8).queue with senseAccel := 5000, senseValid := true, senseClamps := 1 } := by
  decide +kernel

/-- Car 4 of 5.9 with its newest entry alone. -/
def following (c : Nat) (seq : Byte) : State := { faced with
  queue := { faced.queue with entries := [{ chainage := c, accel := 342, valid := true, seq := seq }] } }

/-- 5.9: appended with a sequence gap; and the newest replaced. -/
theorem test_sample_arrivals :
    (after (.sample .a toAll 500052#24 380#16 1#8 47#8 []) (following 500031 44#8)).queue.seqGaps = 1
      ∧ (after (.sample .a toAll 500031#24 361#16 1#8 44#8 []) (following 500031 44#8)).queue.entries
        = [{ chainage := 500031, accel := 361, valid := true, seq := 44#8 }] := by decide +kernel

/-- The six entries of 5.9. -/
def sixEntries : PreviewQueue := { entries := [
  ⟨498880, 250, true, 0#8⟩, ⟨498890, 270, true, 1#8⟩, ⟨498900, 300, true, 2#8⟩, ⟨498910, 335, true, 3#8⟩,
  ⟨498920, 360, false, 4#8⟩, ⟨498930, 372, true, 5#8⟩] }

/-- 5.9: +325 interpolated; INVALID; HELD +372 at 3 dm; GAP at 23 dm. -/
theorem test_reactive_queries :
    (reactiveQuery 1 498907 10 sixEntries).2 = .interpolated 325 498900 498910
      ∧ ((reactiveQuery 1 498907 10 sixEntries).1.entries.map PreviewEntry.chainage) = [498900, 498910, 498920, 498930]
      ∧ (reactiveQuery 1 498914 10 sixEntries).2 = .invalid
      ∧ (reactiveQuery 1 498933 10 sixEntries).2 = .held 372 498930
      ∧ (reactiveQuery 1 498953 10 sixEntries).2 = .gap := by decide +kernel

/-- 5.9: a shift of +46 moves the three entries. -/
theorem test_shift :
    ((shiftQueue 46 { entries := [⟨498930, 1, true, 0#8⟩, ⟨498950, 2, true, 1#8⟩, ⟨498960, 3, true, 2#8⟩] }).entries.map
        PreviewEntry.chainage) = [498976, 498996, 499006] := by decide +kernel

/-! ### Route and store (2.6, 3.8, 4.8) -/

/-- A record without optional parts. -/
def plainRecord (start entry body exit : Nat) (kappa cant : Int) : CurveRecord :=
  { start := start, entry := entry, body := body, exit := exit, kappa := kappa, cant := cant, noTilt := false
    comp := none, limit := none }

/-- Bank 1 of 4.8: the records 9, 10 and 11. -/
def recordsOfExample : List (Nat × CurveRecord) :=
  [(9, plainRecord 494000 600 1800 600 (-900) (-120)),
    (10, { plainRecord 497000 500 1200 500 1100 160 with comp := some 70 }),
    (11, { plainRecord 499300 0 400 200 400 50 with limit := some 450 })]

/-- A descriptor of 2.6. -/
def stretch (kind : SectionKind) (base len : Nat) (unit : Granularity) (up down : Nat) : Descriptor :=
  { kind := kind, base := base, lengthField := len, granularity := unit, nextUp := up, nextDown := down, writeLevel := 1 }

/-- The train of 4.8: the chain of 2.6, section 11 active with its cursor AT 9, v = 5,500, the previous command
given, and the car chainage given. -/
def onRoute (car : Nat) (command : Int) : State := { faced with
  clock := { faced.clock with arrival := some 0, stepDue := 0 }
  pos := { faced.pos with t0 := car, v := 5500, seen := true, u := 6 }
  walker := { faced.walker with
    descs := [(10, stretch .plain 480000 9999 .fine 11 0), (11, stretch (.curveList 1 0 12) 490000 155 .coarse 12 10),
      (12, stretch .noTilt 499984 1199 .fine 13 11), (13, stretch (.reduced 300) 501184 815 .fine 14 12),
      (14, stretch (.curveList 2 0 30) 502000 999 .coarse 0 13)]
    active := 11, cursor := .atRecord 9, lastPoint := some 494000, lastDir := some .up }
  store := { faced.store with
    bank1 := { slots := recordsOfExample, state := .opened, count := 40, last := .pass 40 } }
  mode := { faced.mode with mode := .predictive, prevCommand := some command } }

/-- The route answer of a step at a preview point p, the preview distance being 165. -/
def answerAt (p : Nat) (command : Int) : State × RouteAnswer :=
  geometryQuery (positionQuery (onRoute (p - 165) command)) (onRoute (p - 165) command)

/-- 4.8: κ, cant and compensation at four points, and the cursor there. -/
theorem test_geometry :
    (answerAt 496800 0).2.form = .onSection { kappa := -300, cant := -40, record := some 9, comp := none }
      ∧ (answerAt 497250 0).2.form = .onSection { kappa := 550, cant := 80, record := some 10, comp := some 70 }
      ∧ (answerAt 498913 0).2.form = .onSection { kappa := 631, cant := 91, record := some 10, comp := some 70 }
      ∧ (answerAt 499250 0).2.form = .onSection { kappa := 0, cant := 0, record := none, comp := none }
      ∧ (answerAt 499250 0).1.walker.cursor = .atRecord 11 ∧ (answerAt 499950 0).1.walker.cursor = .exhausted := by
  decide +kernel

/-- 4.8: the tunnel limits to 0; with previous command 0 nothing is found, and 100 dm on record 11 is. -/
theorem test_lookahead :
    (answerAt 499265 544).2.lEff = 0
      ∧ (answerAt 499265 544).1.look.source = some { selector := 12, record := none }
      ∧ (answerAt 499265 0).2.lEff = 800
      ∧ (answerAt 499365 0).2.lEff = 450
      ∧ (answerAt 499365 0).1.look.source = some { selector := 11, record := some 11 } := by decide +kernel

/-- R71: a record that starts 40 dm before its section contributes at 10 dm from the car, where it first holds, not at
50 dm, where its section begins; travelling DOWN, one that reaches 40 dm past it likewise. -/
theorem test_nearness :
    (contribution (stretch .plain 150 99 .fine 0 0) 1 100 300 ⟨2, some 0⟩ 450 110 200).map Restriction.distance = [10]
      ∧ (contribution (stretch .plain 150 99 .fine 0 0) (-1) 300 100 ⟨2, some 0⟩ 450 200 289).map Restriction.distance
        = [11]
      ∧ contribution (stretch .plain 150 99 .fine 0 0) 1 100 300 ⟨2, some 0⟩ 450 110 149 = [] := by decide +kernel

/-- 2.6: the walk to 502,100 follows three links and fails at bank 2, CLOSED. -/
theorem test_walk_fails :
    (answerAt 502100 0).1.walker.active = 0 ∧ (answerAt 502100 0).1.walker.nullCause = .entry .bankNotOpen
      ∧ (answerAt 502100 0).1.walker.lostAt = 14 ∧ (answerAt 502100 0).1.walker.losses = 1
      ∧ (answerAt 499990 0).1.walker.active = 12 ∧ (answerAt 499990 0).1.walker.cursor = .unplaced := by decide +kernel

/-- The arguments of a DESC WRITE of selector 20: type, write level and limit (base 0, length 0, no links). -/
def write20 (type level : Byte) (limit : Word16) : List Byte :=
  [20#8, type * 2#8, 0#8, 0#8, 0#8, 0#8, 0#8, 0#8, 0#8, level, 0#8, 0#8, 0#8, 0#8, 0#8] ++ bytes16 limit

/-- Node 3 with descriptor 20 at a write level. -/
def with20 (level : Nat) : State := { faced with
  walker := { faced.walker with descs := [(20, { stretch .noTilt 0 0 .fine 0 0 with writeLevel := level })] } }

/-- 2.6, write levels: LEVEL; CLAMPED to level 1; BAD_ARG for a limit of 900. -/
theorem test_desc_write :
    resultA (after (.descWrite .a (toNode 1) (write20 3 2 0)) (with20 0)) = some .level
      ∧ replyA (after (.descWrite .a (toNode 1) (write20 4 0 250)) (with20 2)) = some (.clamped, .writeLevel 1)
      ∧ slotGet (after (.descWrite .a (toNode 1) (write20 4 0 250)) (with20 2)).walker.descs 20
        = some { stretch (.reduced 250) 0 0 .fine 0 0 with writeLevel := 1 }
      ∧ resultA (after (.descWrite .a (toNode 1) (write20 4 1 900)) (with20 1)) = some .badArg := by decide +kernel

/-- 2.6: DESC CLEAR is DONE, then ABSENT; selector 0 is BAD_ARG. -/
theorem test_desc_clear :
    (after (.descClear .a (toNode 1) [20#8]) (with20 1)).walker.descs = []
      ∧ resultA (after (.descClear .a (toNode 1) [20#8]) (with20 0)) = some .level
      ∧ resultA (after (.descClear .a (toNode 1) [21#8]) (with20 1)) = some .absent
      ∧ resultA (after (.descClear .a (toNode 1) [0#8]) (with20 1)) = some .badArg := by decide +kernel

/-- R28 and 11.2: descriptor 13 of 2.6 as bytes: type 4, base 501,184 (07 A5 C0), length 815 (03 2F), limit 300. -/
theorem test_desc_read :
    replyA (after (.descRead .a (toNode 3) [13#8]) (onRoute 499000 0))
      = some (.done, .descriptor [13#8, 0x09#8, 0x07#8, 0xA5#8, 0xC0#8, 0x03#8, 0x2F#8, 14#8, 12#8, 1#8, 0#8, 0#8, 0#8, 0#8,
          0#8, 0x01#8, 0x2C#8] false) := by decide +kernel

/-- 2.6: SECTION SELECT 14 is BANK_CLOSED while bank 2 is not OPEN; 12 is DONE. -/
theorem test_section_select :
    resultA (after (.sectionSelect .a (toNode 1) [14#8]) (onRoute 499000 0)) = some .bankClosed
      ∧ (after (.sectionSelect .a (toNode 1) [14#8]) (onRoute 499000 0)).walker.active = 11
      ∧ (after (.sectionSelect .a (toNode 1) [12#8]) (onRoute 499000 0)).walker.active = 12 := by decide +kernel

/-- One present record position of 11.2 with κ +600 and a cant: start 500,000, entry 0x5003 (its upper four bits
ignored), body 4, exit 5. -/
def carried (cant : Word16) : List Byte :=
  [1#8, 0x07#8, 0xA1#8, 0x20#8, 0x50#8, 3#8, 0#8, 4#8, 0#8, 5#8] ++ bytes16 600#16 ++ bytes16 cant ++ [0#8, 0#8, 0#8]

/-- A present record position with a compensation of 150 % and a limit of 1,000. -/
def excessive : List Byte := 13#8 :: ((carried 40#16).drop 1).take 13 ++ [150#8, 0x03#8, 0xE8#8]

/-- An absent record position. -/
def absentPosition : List Byte := List.replicate 17 0#8

/-- The arguments of a LOAD HEAD: bank, group, start slot and length, OPEN-AFTER, count, the first position. -/
def headArgs (bank group startLen openAfter : Byte) (n : Word16) (first : List Byte) : List Byte :=
  [bank, group, startLen, openAfter] ++ bytes16 n ++ first ++ absentPosition ++ absentPosition ++ absentPosition

/-- 3.8: position 0 of group 2, start slot 1, goes to slot 17. R40 and R161: a compensation of 150 % and a limit of 1,000
are CLAMPED, and the reply carries 100 and 800. -/
theorem test_load_head_short :
    (after (.loadHead .a (toNode 1) (headArgs 2#8 2#8 1#8 0#8 0#16 (carried 40#16))) faced).store.bank2.slots
        = [(17, plainRecord 500000 3 4 5 600 40)]
      ∧ replyA (after (.loadHead .a (toNode 1) (headArgs 2#8 2#8 1#8 0#8 0#16 (carried 40#16))) faced)
        = some (.done, .load false 1 .notAsked [])
      ∧ replyA (after (.loadHead .a (toNode 1) (headArgs 2#8 2#8 1#8 0#8 0#16 excessive)) faced)
        = some (.clamped, .load false 1 .notAsked [{ position := 0, comp := some 100, limit := some 800 }]) := by
  decide +kernel

/-- 3.8: a length-8 head is STAGED; one resent abandons the first. -/
theorem test_load_head_long :
    let head := Instr.loadHead .a (toNode 1) (headArgs 2#8 0#8 8#8 0#8 0#16 (carried 40#16))
    (after head faced).store.bank2.slots = [] ∧ (after head faced).store.staged.map StagedBurst.group = some 0
      ∧ replyA (after head faced) = some (.done, .load true 0 .notAsked [])
      ∧ (after head (after head faced)).store.interruptions = 1 := by decide +kernel

/-- 3.8, slot placement: the two bursts of group 3. -/
theorem test_slot_placement :
    ((List.range 8).map (slotOfLong 3 5)) = [29, 30, 31, 24, 25, 26, 27, 28]
      ∧ ((List.range 4).map (slotOfShort 3 6)) = [30, 31, 28, 29] := by decide +kernel

/-- The staged burst of 3.8: bank 2, a group, four present positions. -/
def staged (group start : Nat) : State := { faced with
  store := { faced.store with
    staged := some {
      bank := 2, group := group, start := start
      positions := List.replicate 4 (argPosition (carried 40#16) 0) } } }

/-- The arguments of a LOAD TAIL of four present positions. -/
def tailArgs (bank group openAfter : Byte) (n : Word16) : List Byte :=
  [bank, group, openAfter] ++ bytes16 n ++ carried 40#16 ++ carried 40#16 ++ carried 40#16 ++ carried 40#16

/-- 3.8: a tail of another group is BAD_ARG; the right one writes slots 0 .. 7, and carries what was applied to position 3
when that is stored lower. -/
theorem test_load_tail :
    resultA (after (.loadTail .a (toNode 1) (tailArgs 2#8 1#8 0#8 0#16)) (staged 0 0)) = some .badArg
      ∧ ((after (.loadTail .a (toNode 1) (tailArgs 2#8 0#8 0#8 0#16)) (staged 0 0)).store.bank2.slots.map Prod.fst)
        = [0, 1, 2, 3, 4, 5, 6, 7]
      ∧ replyA (after (.loadTail .a (toNode 1) (tailArgs 2#8 0#8 0#8 0#16)) (staged 0 0))
        = some (.done, .load false 8 .notAsked [])
      ∧ replyA (after (.loadTail .a (toNode 1) (tailArgs 2#8 0#8 0#8 0#16)) { faced with
          store := { faced.store with
            staged := some {
              bank := 2, group := 0, start := 0, positions := [none, none, none, argPosition excessive 0] } } })
        = some (.clamped, .load false 5 .notAsked [{ position := 3, comp := some 100, limit := some 800 }]) := by
  decide +kernel

/-- Bank 2 CLOSED with two records, the second failing with CANT_SIGN (cant −40 at κ +600). -/
def loaded : State := { faced with
  store := { faced.store with
    bank2 := { faced.store.bank2 with
      slots := [(0, plainRecord 500000 1 1 1 600 40), (1, plainRecord 500003 1 1 1 600 (-40))] } } }

/-- R50, R51: opening two records starts the verifier, which may take 2 × 19.5 µs. -/
theorem test_bank_open :
    (after (.bankOpen .a (toNode 1) [2#8, 0#8, 2#8]) loaded).store.verifier
        = some { bank := 2, expected := 2, nextIndex := 0, dueBy := 78 }
      ∧ resultA (after (.bankOpen .a (toNode 1) [2#8, 2#8, 1#8]) loaded) = some .badArg := by decide +kernel

/-- 3.8: the completion fails at the first failing index, and one record alone passes. -/
theorem test_verify_completion :
    let opened (n : Byte) := after .verifyCompletion (after (.bankOpen .a (toNode 1) [2#8, 0#8, n]) loaded)
    (opened 2#8).store.bank2.state = .failed ∧ (opened 2#8).store.bank2.last = .fail 2 1 .cantSign
      ∧ (opened 1#8).store.bank2.state = .opened ∧ (opened 1#8).store.bank2.count = 1
      ∧ after .verifyCompletion loaded = loaded := by decide +kernel

/-- R57: a close during verification is ABANDONED; R37: the bank of the active section is IN_USE. -/
theorem test_bank_close :
    (after (.bankClose .a (toNode 1) [2#8]) (after (.bankOpen .a (toNode 1) [2#8, 0#8, 2#8]) loaded)).store.bank2.last
        = .abandoned 2
      ∧ resultA (after (.bankClose .a (toNode 1) [1#8]) (onRoute 499000 0)) = some .inUse := by decide +kernel

/-- R58: an erased bank holds nothing; R61: under the LOAD mask it is MASKED. -/
theorem test_bank_erase :
    (after (.bankErase .a (toNode 1) [2#8]) loaded).store = faced.store
      ∧ resultA (after (.bankErase .a (toNode 1) [2#8])
          { loaded with line := { loaded.line with masked := { load := true } } }) = some .masked := by decide +kernel

/-- R59 and 11.2: record 1 as bytes, written, κ +600 (02 58), cant −40 (FF D8). -/
theorem test_record_read :
    replyA (after (.recordRead .a (toNode 3) [2#8, 0#8, 1#8]) loaded)
      = some (.done, .record .closed [1#8, 0x07#8, 0xA1#8, 0x23#8, 0#8, 1#8, 0#8, 1#8, 0#8, 1#8, 0x02#8, 0x58#8, 0xFF#8, 0xD8#8,
          0#8, 0#8, 0#8])
      ∧ resultA (after (.recordRead .a (toNode 3) [2#8, 2#8, 0#8]) loaded) = some .badArg := by decide +kernel

/-! ### The step, the drive and the modes (6.9, 7.10, 8.6) -/

/-- Car 3 of 6.9 before its step: the record of 6.9 at index 0, two entries around q, the previous command given. -/
def stepping : State := { faced with
  clock := { faced.clock with arrival := some 20000, stepDue := 20000 }
  params := { faced.params with offsetA := 1200, compPct := 65 }
  pos := { faced.pos with t0 := 500500, v := 5500, seen := true, fixOffset := 35, u := 6 }
  walker := { faced.walker with
    descs := [(11, stretch (.curveList 1 0 1) 490000 65535 .fine 0 0)], active := 11, lastPoint := some 499400
    lastDir := some .up }
  store := { faced.store with
    bank1 := { slots := [(0, plainRecord 498500 800 3000 800 800 150)], state := .opened, count := 1, last := .pass 1 } }
  queue := { faced.queue with entries := [⟨499490, 1360, true, 0#8⟩, ⟨499510, 1378, true, 1#8⟩] }
  mode := { faced.mode with mode := .predictive, prevCommand := some 544 } }

/-- 6.9: the whole step; the command 540 and its stroke 594 (8.6). -/
theorem test_step :
    (after .stepExpiry stepping).demand.lastStep = some {
        mode := .predictive, car := 499335, v := 5500, active := 11, predictive := .available, reactive := .available
        aP := some 1439, aR := some 1369, k := 65, thetaP := some 547, thetaR := some 520, thetaB := 540, target := 540
        lEff := 800, gated := false, limited := false, restrictionUnknown := false, fading := false, rate := false
        carTarget := 540, command := some 540 }
      ∧ (after .stepExpiry stepping).drive.outstanding
        = some { seq := 0#8, kind := .move 540 594, answered := false } := by decide +kernel

/-- 6.9: the transition travelling DOWN: θ_p −402, θ_r −413, θ_b −405. -/
theorem test_stages_down :
    let g := stagesOf fresh.params .predictive {} 5000
      { form := .onSection { kappa := -631, cant := -91, record := some 10, comp := some 70 }, active := 11
        kind := some (.curveList 1 0 12), outcome := .known, lowest := none, source := none, lEff := 800 }
      (.interpolated (-1010) 498920 498900)
    g.aP = some (-983) ∧ g.thetaP = some (-402) ∧ g.thetaR = some (-413) ∧ g.thetaB = -405 ∧ g.target = -405
      ∧ moveToward 398 405 4 = 402 := by decide +kernel

/-- 8.6: the forward and the inverse conversion on the default table. -/
theorem test_conversions :
    toStroke defaultStrokes .nearest 540 = 594 ∧ toStroke defaultStrokes .nearest (-405) = -445
      ∧ toStroke defaultStrokes .truncate (-405) = -446 ∧ toAngle defaultStrokes (-445) = -405
      ∧ toAngle defaultStrokes (-446) = -405 ∧ toAngle defaultStrokes (-900) = -800 ∧ toAngle defaultStrokes 900 = 800
      ∧ toAngle defaultStrokes 15 = 14 ∧ toAngle defaultStrokes 592 = 538 := by decide +kernel

/-- 8.6: after device reset the first DRIVE is a QUERY, whose answer at stroke 15 makes the command known. -/
theorem test_query_answer :
    let t := after (.driveAck 0#8 15#16 0#8) (after .stepExpiry fresh)
    t.mode.prevCommand = some 14 ∧ t.mode.mode = .centring ∧ t.drive.acks = 1
      ∧ (after .stepExpiry t).drive.outstanding = some { seq := 1#8, kind := .move 10 11, answered := false } := by
  decide +kernel

/-- Node 3 in a mode, its previous command known, a MOVE of it outstanding under sequence 5. -/
def moving (mode : Mode) (c : Int) : State := { faced with
  mode := { faced.mode with mode := mode, prevCommand := some c }
  drive := { faced.drive with
    seq := 6#8, missCount := 2
    outstanding := some { seq := 5#8, kind := .move c (toStroke defaultStrokes .nearest c), answered := false } } }

/-- 8.6: an answer to a sequence already replaced is LATE; the third miss in a row is a silence. -/
theorem test_late_and_silence :
    after (.driveAck 2#8 7#16 0#8) (moving .centring 0)
        = { moving .centring 0 with drive := { (moving .centring 0).drive with late := 1 } }
      ∧ (after .stepExpiry (moving .centring 0)).mode.mode = .fault
      ∧ (after .stepExpiry (moving .centring 0)).mode.firstCause = some .driveSilent
      ∧ (after .stepExpiry (moving .centring 0)).drive.silences = 1 := by decide +kernel

/-- 7.10: an acknowledgement of 1 cdeg at command 0 ends centring; one of 13 cdeg does not. -/
theorem test_centred :
    (after (.driveAck 5#8 1#16 0#8) (inMode (moving .centring 0) { (moving .centring 0).mode with target := .reactive })).mode.mode
        = .reactive
      ∧ (after (.driveAck 5#8 14#16 0#8) (moving .centring 0)).mode.mode = .centring := by decide +kernel

/-- A body in HOLD at 300, its reply pending, the settle count given. -/
def holding (settle : Nat) : State := { moving .hold 300 with
  mode := { (moving .hold 300).mode with holdFlag := true, holdReturn := some .reactive, settle := settle }
  holdReply := some { tag := 7#16, source := 17#8, port := .b } }

/-- 7.10: the second acknowledgement within hold_tol answers SETTLED, one outside it sets the count to 0. -/
theorem test_settle :
    replyA (after (.driveAck 5#8 329#16 0#8) (holding 1)) = some (.done, .hold false .settled)
      ∧ (after (.driveAck 5#8 329#16 0#8) (holding 1)).mode.settle = 0
      ∧ (after (.driveAck 5#8 317#16 0#8) (holding 1)).mode.settle = 0
      ∧ (after (.driveAck 5#8 317#16 0#8) (holding 1)).holdReply = (holding 1).holdReply := by decide +kernel

/-- 7.10: a FAULT status enters FAULT with saved mode REACTIVE, the flag still set. -/
theorem test_drive_fault :
    let t := after (.driveAck 5#8 330#16 9#8) (holding 0)
    t.mode.mode = .fault ∧ t.mode.firstCause = some .driveFault ∧ t.mode.saved = .reactive ∧ t.mode.holdFlag = true
      ∧ replyA t = some (.done, .hold false .faulted) ∧ t.line.portA.own.length = 2 := by decide +kernel

/-- A body in FAULT with cause DRIVE_FAULT, held when it faulted. -/
def faulted (status : AckStatus) : State := inMode faced { faced.mode with
  mode := .fault, firstCause := some .driveFault, further := 1, saved := .reactive, holdFlag := true
  ackStatus := some status, prevCommand := some 292 }

/-- 7.10: RESUME is NOT_CLEARED, then leads to HOLD with the first cause kept. -/
theorem test_resume :
    replyA (after (.resume .a (toNode 2) []) (faulted .fault)) = some (.notCleared, .cause (some .driveFault))
      ∧ (after (.resume .a (toNode 2) []) (faulted .ok)).mode
        = { (faulted .ok).mode with mode := .hold, holdReturn := some .reactive } := by decide +kernel

/-- 7.10: RELEASE leaves HOLD for REACTIVE. -/
theorem test_release :
    (after (.release .a (toNode 2) []) (holding 0)).mode.mode = .reactive
      ∧ (after (.release .a (toNode 2) []) (holding 0)).mode.holdFlag = false
      ∧ (after (.release .a (toNode 2) []) (holding 0)).holdReply = none := by decide +kernel

/-- 7.10: HOLD from REACTIVE defers its reply, and only the MODE report stands on port A. -/
theorem test_hold :
    let t := after (.hold .b toAll []) (inMode faced { faced.mode with mode := .reactive, prevCommand := some 300 })
    t.mode.mode = .hold ∧ t.mode.holdReturn = some .reactive
      ∧ t.holdReply = some { tag := 258#16, source := 17#8, port := .b } ∧ replyA t = none
      ∧ t.line.reportTag = 1#16 := by decide +kernel

/-- 7.10: MODE SET REACTIVE is MODE_REFUSED while the upstream port is unknown, and sets the target after it. -/
theorem test_mode_set :
    replyA (after (.modeSet .a (toNode 2) [2#8]) fresh) = some (.modeRefused, .modeHeld .centring (some .off))
      ∧ (after (.modeSet .a (toNode 2) [2#8]) faced).mode.target = .reactive
      ∧ resultA (after (.modeSet .a (toNode 2) [1#8]) faced) = some .badArg := by decide +kernel

/-! ### The line, parameters, masks, restart and audit (9.10, 10.6, R165 to R168) -/

/-- A passing reply, named by its tag. -/
def passing (tag : Word16) : Frame := { h := { toAll with tag := tag }, body := .raw 5#8 [] }

/-- 9.10: with F6 and two own frames waiting and the streak at 4, an own frame leaves next. -/
theorem test_arbiter :
    let p : PortState := {
      fwd := [passing 6], own := [passing 100, passing 101], sending := some (passing 5), streak := 4 }
    (after (.transmissionCompletion .a) (withPortA p)).line.portA
        = { p with own := [passing 101], sending := some (passing 100), streak := 0 }
      ∧ (after (.transmissionCompletion .a) (withPortA { p with streak := 0 })).line.portA
        = { p with fwd := [], sending := some (passing 6), streak := 1 } := by decide +kernel

/-- R154: hop counts rise to 255 and hold there; R155: a request for node 4 is passed on and not taken. -/
theorem test_forward :
    (after (.frameForward .a { toOther with hop := 255#8 } (.other 9#8 [])) faced).line.portB.sending
        = some { h := { toOther with hop := 255#8 }, body := .raw 9#8 [] }
      ∧ (after (.frameForward .a toOther (.request [22#8])) faced).line.portB.sending
        = some { h := { toOther with hop := 2#8 }, body := .request [22#8] }
      ∧ (after (.frameForward .a toOther (.request [22#8])) faced).line.requestsTaken = 0 := by decide +kernel

/-- Car 16 of 9.10: floor_B is 2. -/
def rear : State := { faced with line := { faced.line with floorB := 2 } }

/-- 9.10: at the rear port MODE SET is taken at level 2; a broadcast RESTART is LEVEL and forwarded out of port A. -/
theorem test_rear_authority :
    resultA (after (.modeSet .b (toNode 0) [0#8]) rear) = some .done
      ∧ resultA (after (.paramSet .b (toNode 0) [23#8, 0#8, 0#8]) rear) = some .level
      ∧ resultA (after (.restart .b toAll []) rear) = some .level
      ∧ (after (.restart .b toAll []) rear).line.portA.fwd.length = 1 := by decide +kernel

/-- 9.10 and R167: under the mask the same RESTART is dropped and counted. -/
theorem test_trail_drop :
    (after (.trailDrop .b toAll [22#8]) { rear with line := { rear.line with masked := { trailRequests := true } } }).line
      = { rear.line with
          masked := { trailRequests := true }, trailDrop := 1, portB := { rear.line.portB with received := 1 } } := by
  decide +kernel

/-- R154: a bad line frame is counted and nothing else; R175: a bad local frame leaves the state as it was. -/
theorem test_bad_frames :
    (after (.checkError .b [1#8]) faced).line.portB = { faced.line.portB with checkErrors := 1 }
      ∧ after (.localFrameDiscard .drive [4#8]) faced = faced := by decide +kernel

/-- R161: a code outside the catalogue is answered UNKNOWN at any level. -/
theorem test_unknown_request :
    replyA (after (.requestUnknown .a (toNode 3) [200#8]) rear) = some (.unknown, .empty) := by decide +kernel

/-- R2 and R165: odo_timeout is clamped to its range's end 1,000, then to odo_lost_ms; a step_ms of 4 becomes 5. -/
theorem test_param_set :
    replyA (after (.paramSet .a (toNode 1) [6#8, 0x7F#8, 0xFF#8])
        { faced with params := { faced.params with odoLostMs := 600 } }) = some (.clamped, .value 600)
      ∧ (after (.paramSet .a (toNode 1) [13#8, 0#8, 4#8]) faced).params.stepMs = 5
      ∧ resultA (after (.paramSet .a (toNode 1) [24#8, 0#8, 4#8]) faced) = some .badArg := by decide +kernel

/-- R13: at 999 ms of silence an odo_lost_ms of 999 has passed: FAULT, IDLE, and the FAULT and MODE reports before the
reply. One of 1,000 has not. -/
theorem test_param_set_expiry :
    let passed := after (.paramSet .a (toNode 1) [7#8, 0x03#8, 0xE7#8]) (queried 999)
    passed.mode.firstCause = some .odoLost ∧ passed.pos.watchdog = .idle ∧ passed.params.odoLostMs = 999
      ∧ ((passed.line.portA.sending.toList ++ passed.line.portA.own).map fun f => match f.body with
        | .report (.fault ..) => 1 | .report (.mode ..) => 2 | .reply .. => 3 | _ => 0) = [1, 2, 3]
      ∧ (after (.paramSet .a (toNode 1) [7#8, 0x03#8, 0xE8#8]) (queried 999)).mode.mode = .centring
      ∧ (after (.paramSet .a (toNode 1) [7#8, 0x03#8, 0xE8#8]) (queried 999)).pos.watchdog = .running := by
  decide +kernel

/-- R2: the default of v_min is 1,111. -/
theorem test_param_read :
    replyA (after (.paramRead .a (toNode 3) [19#8]) faced) = some (.done, .value 1111)
      ∧ resultA (after (.paramRead .a (toNode 3) [0#8]) faced) = some .badArg := by decide +kernel

/-- R164: page DRIVE after reset; a page code of 10 is BAD_ARG. -/
theorem test_status_read :
    replyA (after (.statusRead .a (toNode 3) [8#8]) faced)
        = some (.done, .status (.drive faced.drive) .centring {} (some 3#8))
      ∧ resultA (after (.statusRead .a (toNode 3) [10#8]) faced) = some .badArg := by decide +kernel

/-- R170, R164: page AUDIT shows of a pending tag its sequence and kind, and no record that is not valid. -/
theorem test_status_read_audit :
    replyA (after (.statusRead .a (toNode 3) [9#8])
        { faced with audit := { faced.audit with armed := true, pending := some { seq := 112#8, isMove := true } } })
      = some (.done, .status
          (.audit {
            armed := true, period := none, counter := 0, pending := some { seq := 112#8, isMove := true }
            record := none, valid := false, stepNumber := 0#32 })
          .centring {} (some 3#8)) := by decide +kernel

/-- R150: a table that falls at index 15 is refused with 15; R151: the default table reads back. -/
theorem test_stroke_requests :
    replyA (after (.strokeLoad .a (toNode 0)
        (((defaultStrokes.take 16 ++ [770]).flatMap fun x => bytes16 (BitVec.ofInt 16 x)) ++ [0#8])) faced)
        = some (.badArg, .index 15)
      ∧ (after (.strokeLoad .a (toNode 0) ((defaultStrokes.flatMap fun x => bytes16 (BitVec.ofInt 16 (2 * x))) ++ [1#8]))
          faced).strokes = defaultStrokes.map (2 * ·)
      ∧ replyA (after (.strokeRead .a (toNode 3) []) faced) = some (.done, .strokes defaultStrokes .nearest false) := by
  decide +kernel

/-- R171: a period of 15 is BAD_ARG; one of 16 arms the audit. -/
theorem test_audit_arm :
    resultA (after (.auditArm .a (toNode 3) [0#8, 15#8]) faced) = some .badArg
      ∧ (after (.auditArm .a (toNode 3) [0#8, 16#8]) faced).audit.armed = true
      ∧ (after (.auditArm .a (toNode 3) [0#8, 16#8]) faced).audit.period = some 16 := by decide +kernel

/-- R136, R166: masking PREDICTIVE in mode PREDICTIVE leaves REACTIVE; bit 4 names no feature. -/
theorem test_feature_mask :
    (after (.featureMask .a (toNode 0) [1#8]) (inMode faced { faced.mode with mode := .predictive })).mode.mode = .reactive
      ∧ resultA (after (.featureMask .a (toNode 0) [0x11#8]) faced) = some .badArg
      ∧ (after (.featureMask .a (toNode 0) [0x11#8]) faced).line.masked = {} := by decide +kernel

/-- R137, R168: RESTART in FAULT returns to CENTRING; the previous command and the latest ack status stand. -/
theorem test_restart :
    (after (.restart .a (toNode 0) []) (faulted .ok)).mode
      = { fresh.mode with prevCommand := some 292, ackStatus := some .ok } := by decide +kernel

/-- R159, R176: straps of 16 give address 16, of 17 none; counts and the route are lost. -/
theorem test_device_reset :
    (after (.deviceReset (.released 16#5)) (onRoute 499000 0)).line.address = some 16#8
      ∧ (after (.deviceReset (.released 17#5)) (onRoute 499000 0)).line.address = none
      ∧ (after (.deviceReset (.released 16#5)) (onRoute 499000 0)).walker = fresh.walker := by decide +kernel

/-- Node 3 of 6.9, held in device reset before its step. -/
def heldInReset : State := after (.deviceReset .held) stepping

/-- R176: while held the part takes no frame, counts no check error and runs no step; the release samples the straps,
and a good frame cut by it is a check error. -/
theorem test_held :
    after (odoA 500000#24 5500#16) heldInReset = heldInReset ∧ after .stepExpiry heldInReset = heldInReset
      ∧ after (.checkError .a []) heldInReset = heldInReset ∧ dueEvents heldInReset = []
      ∧ heldInReset.line.portA = {}
      ∧ (let t := after (.deviceReset (.released 3#5)) heldInReset
        t.held = false ∧ t.line.address = some 3#8
          ∧ (after (.checkError .a (lineBytes 5#8 toAll [])) t).line.portA.checkErrors = 1
          ∧ (after (.checkError .a (lineBytes 5#8 toAll [])) t).line.portA.received = 0) := by decide +kernel

/-- R62: the route answer carries the active section, its type and the lowest restriction found. -/
theorem test_route_answer :
    (answerAt 499365 0).2.kind = some (.curveList 1 0 12) ∧ (answerAt 499365 0).2.active = 11
      ∧ (answerAt 499365 0).2.lowest = some 450
      ∧ (answerAt 499365 0).2.source = some { selector := 11, record := some 11 }
      ∧ (answerAt 502100 0).2.kind = none ∧ (answerAt 502100 0).2.outcome = .unknown .noSection := by decide +kernel

/-! ### Witnesses: for each statement with hypotheses, operands and states that meet them -/

/-- All three timer events due at one instant. -/
def allDue : State := { faced with
  clock := { now := 2000000, arrival := some 0, stepDue := 2000000 }
  pos := { faced.pos with watchdog := .running }
  store := { faced.store with verifier := some { bank := 2, expected := 1, nextIndex := 0, dueBy := 2000000 } } }

theorem witness_EmptyQueueIdles :
    heldInReset.held = true ∧ (fresh.pending = [] ∧ dueEvents { fresh with clock := { fresh.clock with now := 19999 } } = [])
      ∧ dueEvents { fresh with clock := { fresh.clock with now := 20000 } } = [.stepExpiry]
      ∧ allDue.pending = [] ∧ (dueEvents allDue).length = 3 := by decide +kernel

theorem witness_FramesDecode :
    ∀ c ∈ [Instr.odometry .a toAll 0#24 0#16 0#8 (List.replicate 90 0#8), .frameForward .a toOther (.request []),
        .frameForward .b toOther (.request [22#8]), .trailDrop .b toAll [1#8, 2#8], .frameForward .a toAll (.other 0#8 []),
        .sense 0#16 0#8, .driveAck 255#8 0#16 2#8, .checkError .a [], .localFrameDiscard .drive [],
        .checkError .b (lineBytes 4#8 toAll [22#8]), .localFrameDiscard .sensor (senseBytes 0#16 0#8),
        .requestUnknown .a toAll [], .requestUnknown .a toAll [23#8], .restart .b toAll (List.replicate 95 0#8)],
      wellFormed c = true ∧ encode c ≠ .event := by decide +kernel

theorem witness_BadFramesDiscarded :
    senseFrameGood (1#8 :: senseBytes 0#16 0#8) = false ∧ ackFrameGood [] = false ∧ faced.held = false
      ∧ lineFrameGood (lineBytes 1#8 toAll [0#8, 0#8, 0#8, 0#8, 0#8]) = false := by decide +kernel

/-- Good frames: ODOMETRY, FIX and SAMPLE of the least payload, an unknown kind without one, a SENSE frame and a
DRIVE-ACK; and the check value of a string of nine digits, known from outside the spec, and of no bytes. -/
theorem witness_BadFramesDiscarded_good :
    (∀ x ∈ [(1#8, 6), (2#8, 8), (3#8, 7), (9#8, 0)], lineFrameGood (lineBytes x.1 toAll (List.replicate x.2 255#8)) = true)
      ∧ lineFrameGood (lineBytes 2#8 toAll (List.replicate 7 255#8)) = false
      ∧ lineFrameGood (lineBytes 3#8 toAll (List.replicate 6 255#8)) = false
      ∧ senseFrameGood (senseBytes 0xFFFF#16 255#8) = true ∧ ackFrameGood (ackBytes 255#8 0#16 255#8) = true
      ∧ checkValue [49#8, 50#8, 51#8, 52#8, 53#8, 54#8, 55#8, 56#8, 57#8] = 0x29B1 ∧ checkValue [] = 65535 := by
  decide +kernel

/-- The longest good frame. -/
theorem witness_BadFramesDiscarded_longest :
    lineFrameGood (lineBytes 255#8 toAll (List.replicate 96 255#8)) = true :=
  (lineFrameGood_lineBytes 255#8 toAll _ (by simp)).trans (by decide)

/-- A held part, and a command it does not act on. -/
theorem witness_DeviceResetValues :
    heldInReset.held = true ∧ (∀ e, Instr.stepExpiry ≠ .deviceReset e)
      ∧ exec (.deviceReset .held) stepping = .next heldInReset := ⟨rfl, nofun, rfl⟩

/-- A record of a tagged step. -/
def taggedRecord : AuditRecord := {
  stepNumber := 11, mode := .predictive, car := 499000, v := 5500, active := 11, predictive := .available
  reactive := .available, thetaP := some 547, thetaR := some 520, thetaB := 540, lEff := 800, rate := false, limited := false
  restrictionUnknown := false, command := some 540, seq := 5#8, isMove := true, stroke := some 594, senseAccel := 5000
  senseValid := true, completion := .pending }

/-- A verification in progress. -/
def inProgress : Verification := { bank := 2, expected := 1, nextIndex := 0, dueBy := 2000 }

/-- A staged burst of bank 3. -/
def heldBurst : StagedBurst := { bank := 3, group := 63, start := 7, positions := List.replicate 4 none }

/-- A train at work: a section active, frames waiting, a burst staged, a bank OPENING, entries queued, a tag pending. -/
def train : State := { onRoute 499000 544 with
  clock := { now := 1000, arrival := some 0, stepDue := 21000 }
  line := { faced.line with
    portA := { fwd := [passing 6], own := [passing 100], sending := some (passing 5), streak := 4 } }
  pos := { (onRoute 499000 544).pos with watchdog := .running, u := 60 }
  store := { (onRoute 499000 544).store with
    bank2 := { loaded.store.bank2 with state := .opening }, staged := some heldBurst, verifier := some inProgress }
  queue := { entries := [⟨499490, 1360, true, 0#8⟩, ⟨499510, -5000, true, 1#8⟩], senseAccel := 5000, senseValid := true }
  audit := {
    armed := true, period := some 16, counter := 15, pending := some { seq := 5#8, isMove := true }
    record := some taggedRecord } }

/-- A step of the train at work: one tick of its clock. -/
theorem train_step : step train = .next (tick train) := rfl

theorem witness_StepKeepsStores : StoresCanonical train ∧ step train = .next (tick train) := by
  refine ⟨⟨by decide +kernel, fun x h => ?_⟩, train_step⟩
  have h' : some heldBurst = some x := h
  cases h'
  decide

theorem witness_StepKeepsLineLaw : LineLaw train ∧ step train = .next (tick train) :=
  ⟨by unfold LineLaw PortLaw; decide +kernel, train_step⟩

theorem witness_VerifierLaw : VerifierLaw train.store := by
  intro b
  constructor
  · intro h
    refine ⟨inProgress, rfl, ?_⟩
    revert h b
    decide +kernel
  · rintro ⟨x, h, h'⟩
    have h'' : some inProgress = some x := h
    cases h''
    cases h'
    rfl

theorem witness_StagedLaw : StagedLaw train.store := by
  intro x h
  have h' : some heldBurst = some x := h
  cases h'
  rfl

theorem witness_StepKeepsActiveSection :
    ActiveSectionLaw train ∧ VerifierLaw train.store ∧ StagedLaw train.store ∧ train.walker.active ≠ 0
      ∧ step train = .next (tick train) :=
  ⟨fun _ => ⟨stretch (.curveList 1 0 12) 490000 155 .coarse 12 10, rfl, rfl, by decide +kernel⟩, witness_VerifierLaw,
    witness_StagedLaw, by decide +kernel, train_step⟩

theorem witness_StepKeepsQueueLaw : QueueLaw train ∧ step train = .next (tick train) :=
  ⟨by unfold QueueLaw Increasing; decide +kernel, train_step⟩

theorem witness_StepKeepsModeLaw : ModeLaw train ∧ step train = .next (tick train) :=
  ⟨⟨by unfold Admits; decide +kernel, by unfold Admits; decide +kernel, by unfold Admits; decide +kernel,
    fun h => absurd h (by decide +kernel), by unfold Admits; decide +kernel, by decide +kernel⟩, train_step⟩

theorem witness_StepKeepsCommandLaw : CommandLaw train ∧ step train = .next (tick train) := by
  refine ⟨⟨by unfold StrokeLaw; decide +kernel, by decide +kernel, fun c h => ?_⟩, train_step⟩
  have h' : some (544 : Int) = some c := h
  cases h'
  unfold CommandAngle
  decide

theorem witness_StepKeepsParamLaw : ParamLaw train ∧ step train = .next (tick train) :=
  ⟨⟨fun x => by cases x <;> decide +kernel, by decide +kernel⟩, train_step⟩

theorem witness_StepKeepsAuditLaw : AuditLaw train ∧ step train = .next (tick train) := by
  refine ⟨⟨fun t h => ⟨rfl, taggedRecord, rfl, rfl, ?_⟩, fun h => absurd h (by decide +kernel)⟩, train_step⟩
  have h' : some { seq := 5#8, isMove := true } = some t := h
  cases h'
  exact ⟨rfl, rfl⟩

/-- The train with every feature masked. -/
def allMasked : State := { train with
  line := { train.line with masked := { predictive := true, audit := true, load := true, trailRequests := true } } }

theorem witness_OnlyResetForgets :
    exec .odoLost allMasked = .next (after .odoLost allMasked) ∧ (∀ straps, Instr.odoLost ≠ .deviceReset straps)
      ∧ allMasked.line.upstream ≠ none ∧ allMasked.line.masked.predictive = true ∧ allMasked.line.masked.audit = true
      ∧ allMasked.line.masked.load = true ∧ allMasked.line.masked.trailRequests = true :=
  ⟨rfl, nofun, by decide +kernel⟩

theorem witness_CommandMovesByRateStep :
    exec .stepExpiry train = .next (after .stepExpiry train) ∧ (∀ straps, Instr.stepExpiry ≠ .deviceReset straps)
      ∧ train.mode.prevCommand = some 544 ∧ (holding 0).mode.prevCommand = some 300 ∧ (holding 0).mode.mode = .hold
      ∧ fresh.mode.prevCommand = none ∧ Instr.odoLost ≠ .stepExpiry ∧ (∀ q x st, Instr.stepExpiry ≠ .driveAck q x st) :=
  ⟨rfl, nofun, rfl, rfl, rfl, rfl, nofun, nofun⟩

theorem witness_VerifiedSlotsStand :
    StagedLaw train.store ∧ exec .odoLost train = .next (after .odoLost train)
      ∧ (∀ straps, Instr.odoLost ≠ .deviceReset straps) ∧ (bankOf train.store 1).state ≠ .closed
      ∧ (bankOf train.store 2).state ≠ .closed :=
  ⟨witness_StagedLaw, rfl, nofun, by decide +kernel, by decide +kernel⟩

theorem witness_UncertaintyFallsByFix :
    let c := fixA 500250#24 500215#24 50#8 1#8
    exec c train = .next (after c train) ∧ (∀ straps, c ≠ .deviceReset straps) ∧ (after c train).pos.u < train.pos.u :=
  ⟨rfl, nofun, by decide +kernel⟩

theorem witness_ModeChangesReported :
    let c := Instr.restart .a (toNode 0) []
    exec c train = .next (after c train) ∧ (∀ straps, c ≠ .deviceReset straps)
      ∧ (after c train).mode.mode ≠ train.mode.mode :=
  ⟨rfl, nofun, by decide +kernel⟩

/-- A port's queues filled to given lengths, sending or IDLE. -/
def filled (fwd own : Nat) (sending : Bool) (streak : Nat) : PortState := {
  fwd := List.replicate fwd (passing 1), own := List.replicate own (passing 2)
  sending := if sending then some (passing 3) else none, streak := streak }

theorem witness_LineQueuesAndArbiter :
    (withPortA (filled 1 1 true 3)).held = false ∧ (filled 16 8 true 4).fwd.length = 16 ∧ (filled 16 8 true 4).own.length = 8
      ∧ (filled 15 7 true 4).fwd.length < 16 ∧ (filled 15 7 true 4).own.length < 8
      ∧ (filled 15 7 true 4).sending = some (passing 3)
      ∧ (filled 0 0 false 0).sending = none ∧ (filled 0 0 false 0).fwd = [] ∧ (filled 0 0 false 0).own = []
      ∧ portOf (withPortA (filled 1 1 true 3)).line .a = filled 1 1 true 3 ∧ (filled 1 0 true 3).own = []
      ∧ (filled 1 1 true 3).fwd = passing 1 :: [] ∧ (filled 1 1 true 3).own = passing 2 :: []
      ∧ (filled 1 1 true 3).streak ≤ 3 ∧ (filled 1 1 true 4).streak = 4 ∧ (filled 0 1 true 4).fwd = [] := by decide +kernel

theorem witness_PassedFrames :
    faced.held = false ∧ trailMasked faced .b = false ∧ toOther.dest ≠ 0#8 ∧ faced.line.address ≠ some toOther.dest := by decide +kernel

theorem witness_TrailRequestsDropped :
    allMasked.held = false ∧ allMasked.line.masked.trailRequests = true
      ∧ allMasked.line.upstream = some (otherPort .b) := by decide +kernel

theorem witness_RequestLevelRefused :
    (requiredLevel 1#8 = some 3 ∧ requiredLevel 4#8 = some 2 ∧ requiredLevel 22#8 = some 0)
      ∧ rear.held = false ∧ trailMasked rear .b = false ∧ takesRequest rear 0#8 = true
      ∧ 0 < max (min (toNode 0).level.toNat 3) (floorOf rear.line .b)
      ∧ 2 < max (min (toNode 255).level.toNat 3) (floorOf rear.line .b) := by decide +kernel

theorem witness_UnknownRequestAnswered :
    rear.held = false ∧ trailMasked rear .b = false ∧ takesRequest rear 3#8 = true ∧ requiredLevel 0#8 = none
      ∧ requiredLevel 23#8 = none := by decide +kernel

theorem witness_OwnFramesFormed : faced.line.upstream = some .a ∧ fresh.line.upstream = none := by decide +kernel

/-! #### Requests -/

/-- Requests from level 0 to 3 reach their owner on either port, to node 3 or to all. -/
theorem witness_Admitted :
    Admitted faced .a (toNode 3) 3 ∧ Admitted faced .b (toNode 2) 2 ∧ Admitted faced .a (toNode 1) 1
      ∧ Admitted rear .a toAll 0 ∧ Admitted rear .b (toNode 0) 2 ∧ Admitted fresh .a (toNode 0) 0 := by
  unfold Admitted
  decide +kernel

/-- The audit armed with a period of 16, its counter given, its record valid or not. -/
def audited (counter : Nat) (valid : Bool) : State :=
  { faced with audit := { armed := true, period := some 16, counter := counter, valid := valid } }

theorem witness_StatusReadPages :
    (Admitted faced .a (toNode 3) 3 ∧ ([] : List Byte).length < 1 ∧ arg8 [0#8] 0 = 0 ∧ 9 < arg8 [10#8] 0)
      ∧ (StoresCanonical faced ∧ faced.audit.valid = false ∧ (audited 15 true).audit.valid = true)
      ∧ ∀ i : Fin 9, 1 ≤ [BitVec.ofNat 8 (i.val + 1)].length
      ∧ arg8 [BitVec.ofNat 8 (i.val + 1)] 0 = i.val + 1 := by
  refine ⟨by unfold Admitted; decide +kernel, ⟨⟨by decide +kernel, nofun⟩, rfl, rfl⟩, by decide +kernel⟩

/-- Both floors and their ends; a floor at level 0 and at level 2; no such parameter; two bytes too few. -/
theorem witness_ParamRequests :
    paramOfCode (arg8 [1#8, 0#8, 0#8] 0) = some .offsetA ∧ paramOfCode (arg8 [23#8, 0#8, 3#8] 0) = some .floorB
      ∧ Admitted faced .a (toNode 0) 1 ∧ 3 ≤ [23#8, 0#8, 3#8].length ∧ effectiveLevel faced .a (toNode 0) = 0
      ∧ Admitted faced .a (toNode 3) 3 ∧ paramOfCode (arg8 [22#8, 0#8, 3#8] 0) = some .floorA
      ∧ Admitted faced .a (toNode 1) 1 ∧ 0 < effectiveLevel faced .a (toNode 1)
      ∧ paramOfCode (arg8 [0#8, 0#8, 3#8] 0) = none ∧ paramOfCode (arg8 [24#8] 0) = none ∧ [1#8, 0#8].length < 3 := by
  unfold Admitted
  decide +kernel

/-- A watchdog running 999 ms after its arrival, an odo_lost_ms that has passed and one that has not. -/
theorem witness_ParamRequests_expiry :
    Admitted (queried 999) .a (toNode 1) 1 ∧ paramOfCode (arg8 [7#8, 0x03#8, 0xE7#8] 0) = some .odoLostMs
      ∧ 3 ≤ [7#8, 0x03#8, 0xE7#8].length ∧ (queried 999).pos.watchdog = .running
      ∧ (∃ a, (queried 999).clock.arrival = some a ∧ (a : Int) + 999 * 2000 ≤ (queried 999).clock.now
        ∧ ¬ (a : Int) + 1000 * 2000 ≤ (queried 999).clock.now)
      ∧ argInt16 [7#8, 0x03#8, 0xE7#8] 1 = 999 ∧ argInt16 [7#8, 0x03#8, 0xE8#8] 1 = 1000 := by
  refine ⟨by unfold Admitted; decide +kernel, by decide +kernel, by decide, by decide +kernel, ⟨0, ?_⟩, by decide +kernel,
    by decide +kernel⟩
  decide +kernel

theorem witness_ModeSetActs :
    Admitted faced .a (toNode 2) 2
      ∧ (arg8 [0#8] 0 = 0 ∧ Admits fresh .off) ∧ (arg8 [2#8] 0 = 2 ∧ Admits faced .reactive)
      ∧ (arg8 [3#8] 0 = 3 ∧ Admits faced .predictive)
      ∧ faced.mode.mode = .centring ∧ (moving .off 0).mode.mode = .off ∧ chosenToMode .off = (moving .off 0).mode.mode
      ∧ chosenToMode .predictive ≠ (moving .reactive 0).mode.mode ∧ (moving .predictive 0).mode.mode = .predictive
      ∧ (Admitted (holding 0) .a (toNode 2) 2 ∧ (holding 0).mode.mode = .hold ∧ (faulted .ok).mode.mode = .fault)
      ∧ (Admitted allMasked .a (toNode 2) 2 ∧ allMasked.line.masked.predictive = true
        ∧ allMasked.mode.mode ≠ .hold ∧ allMasked.mode.mode ≠ .fault)
      ∧ (Admitted fresh .a (toNode 2) 2 ∧ fresh.line.upstream = none ∧ fresh.line.masked.predictive = false
        ∧ fresh.mode.mode = .centring)
      ∧ arg8 [1#8] 0 = 1 ∧ 3 < arg8 [4#8] 0 ∧ ([] : List Byte).length < 1 := by
  unfold Admitted Admits
  decide +kernel

/-- Descriptors at the ends of their fields: 0 .. 511 with first 511 and count 1; limit 800; COARSE to the last
chainage. -/
theorem witness_DescWriteStores :
    let args := [63#8, 0x12#8, 0xC0#8, 0#8, 0#8, 0xFF#8, 0xFF#8, 63#8, 0#8, 255#8, 3#8, 0x01#8, 0xFF#8, 0#8, 1#8, 0#8, 0#8]
    let f := descFields args
    Admitted faced .a (toNode 1) 1 ∧ 17 ≤ args.length ∧ f.selector = 63 ∧ f.selector ≠ faced.walker.active
      ∧ effectiveLevel faced .a (toNode 1) ≤ ((slotGet faced.walker.descs f.selector).map Descriptor.writeLevel).getD 3
      ∧ f.typeCode = 1 ∧ f.first = 511 ∧ f.count = 1 ∧ f.bank = (3 : Fin 4).val ∧ f.nextUp = 63 ∧ f.nextDown = 0
      ∧ f.base + (if f.granularity = .fine then f.lengthField + 1 else (f.lengthField + 1) * 64) - 1 = 16777215
      ∧ (descFields (write20 0 0 0)).typeCode = 0 ∧ (descFields (write20 2 0 0)).typeCode = 2
      ∧ (descFields (write20 3 0 0)).typeCode = 3 ∧ (descFields (write20 4 0 800)).typeCode = 4
      ∧ (descFields (write20 4 0 800)).limit = 800 := by
  unfold Admitted
  decide +kernel

/-- The type 5, the chainage 16,777,216, a link to 64, and the bank 4, first 512, count 513 and first + count 513. -/
theorem witness_DescWriteStores_refused :
    ((write20 0 0 0).take 16).length < 17 ∧ (descFields (List.replicate 17 0#8)).selector = 0
      ∧ 63 < (descFields (64#8 :: List.replicate 16 0#8)).selector
      ∧ (Admitted (with20 0) .a (toNode 1) 1 ∧ ((slotGet (with20 0).walker.descs 20).map Descriptor.writeLevel).getD 3
        < effectiveLevel (with20 0) .a (toNode 1))
      ∧ ((onRoute 0 0).walker.active = 11 ∧ ((slotGet (onRoute 0 0).walker.descs 11).map Descriptor.writeLevel).getD 3 = 1)
      ∧ 5 ≤ (descFields (write20 5 0 0)).typeCode ∧ 800 < (descFields (write20 4 0 801)).limit
      ∧ (let f := descFields [63#8, 2#8, 0xFF#8, 0xFF#8, 0xFF#8, 0#8, 1#8, 64#8, 64#8, 0#8, 4#8, 2#8, 0#8, 2#8, 1#8, 0#8, 0#8]
        f.typeCode = 1 ∧ f.base + (f.lengthField + 1) - 1 = 16777216 ∧ f.granularity = .fine ∧ 63 < f.nextUp
          ∧ 63 < f.nextDown ∧ 3 < f.bank ∧ 511 < f.first ∧ 512 < f.count)
      ∧ (let f := descFields [63#8, 2#8, 0#8, 0#8, 0#8, 0#8, 1#8, 0#8, 0#8, 0#8, 3#8, 1#8, 0xFF#8, 0#8, 2#8, 0#8, 0#8]
        f.typeCode = 1 ∧ f.first = 511 ∧ 512 < f.first + f.count) := by
  unfold Admitted
  decide +kernel

theorem witness_DescClearAndRead :
    Admitted (with20 1) .a (toNode 1) 1 ∧ 1 ≤ [20#8].length ∧ arg8 [20#8] 0 = 20 ∧ 20 ≤ 63
      ∧ slotGet (with20 1).walker.descs 20 = some (stretch .noTilt 0 0 .fine 0 0)
      ∧ effectiveLevel (with20 1) .a (toNode 1) ≤ (stretch .noTilt 0 0 .fine 0 0).writeLevel
      ∧ 20 ≠ (with20 1).walker.active ∧ Admitted (with20 1) .a (toNode 3) 3 := by
  unfold Admitted
  decide +kernel

theorem witness_DescClearAndRead_refused :
    ([] : List Byte).length < 1 ∧ arg8 [0#8] 0 = 0 ∧ 63 < arg8 [64#8] 0
      ∧ (Admitted (with20 0) .a (toNode 1) 1 ∧ ((slotGet (with20 0).walker.descs 20).map Descriptor.writeLevel).getD 3
        < effectiveLevel (with20 0) .a (toNode 1))
      ∧ (Admitted (onRoute 0 0) .a (toNode 1) 1 ∧ (onRoute 0 0).walker.active = 11
        ∧ effectiveLevel (onRoute 0 0) .a (toNode 1)
          ≤ ((slotGet (onRoute 0 0).walker.descs 11).map Descriptor.writeLevel).getD 3)
      ∧ slotGet (with20 0).walker.descs 63 = none ∧ (with20 0).walker.active = 0 := by
  unfold Admitted
  decide +kernel

theorem witness_SectionSelectActs :
    Admitted train .a (toNode 1) 1 ∧ arg8 [0#8] 0 = 0 ∧ arg8 [11#8] 0 = 11
      ∧ slotGet train.walker.descs 11 = some (stretch (.curveList 1 0 12) 490000 155 .coarse 12 10)
      ∧ KindUsable train.store (.curveList 1 0 12) ∧ KindUsable train.store .noTilt :=
  ⟨by unfold Admitted; decide +kernel, rfl, rfl, rfl, ⟨rfl, by decide +kernel⟩, trivial⟩

/-- Section 14 of 2.6 names bank 2; section 11 names the first 12 records of bank 1. -/
theorem witness_SectionSelectActs_refused :
    Admitted train .a (toNode 1) 1 ∧ ([] : List Byte).length < 1 ∧ 63 < arg8 [64#8] 0
      ∧ slotGet train.walker.descs 63 = none ∧ (stretch .invalid 0 0 .fine 0 0).kind = .invalid
      ∧ (slotGet train.walker.descs 14).map Descriptor.kind = some (.curveList 2 0 30)
      ∧ (bankOf train.store 2).state ≠ .opened ∧ (bankOf stepping.store 1).state = .opened
      ∧ (bankOf stepping.store 1).count < 0 + 12 := by
  unfold Admitted
  decide +kernel

theorem witness_LoadHeadActs :
    Admitted faced .a (toNode 1) 1 ∧ faced.line.masked.load = false
      ∧ (∀ startLen : Fin 16, 74 ≤ (headArgs 2#8 63#8 (BitVec.ofNat 8 startLen.val) 1#8 512#16 (carried 40#16)).length
          ∧ arg8 (headArgs 2#8 63#8 (BitVec.ofNat 8 startLen.val) 1#8 512#16 (carried 40#16)) 0 = (2 : Fin 4).val
          ∧ arg8 (headArgs 2#8 63#8 (BitVec.ofNat 8 startLen.val) 1#8 512#16 (carried 40#16)) 1 = 63
          ∧ argBit (headArgs 2#8 63#8 (BitVec.ofNat 8 startLen.val) 1#8 512#16 (carried 40#16)) 2 3
            = decide (8 ≤ startLen.val))
      ∧ (bankOf faced.store 2).state = .closed ∧ faced.store.staged = none := by
  unfold Admitted
  decide +kernel

/-- LOAD masked; 73 bytes; bank 4; group 64; bank 1 OPEN; bank 0 CLOSED while a burst waits for bank 3. -/
theorem witness_LoadHeadActs_refused :
    (Admitted allMasked .a (toNode 1) 1 ∧ allMasked.line.masked.load = true)
      ∧ (Admitted train .a (toNode 1) 1 ∧ train.line.masked.load = false)
      ∧ (List.replicate 73 (0#8 : Byte)).length < 74 ∧ 3 < arg8 (4#8 :: List.replicate 73 0#8) 0
      ∧ 63 < arg8 (0#8 :: 64#8 :: List.replicate 72 0#8) 1 ∧ arg8 (1#8 :: List.replicate 73 0#8) 0 = (1 : Fin 4).val
      ∧ (bankOf train.store 1).state ≠ .closed ∧ (bankOf train.store 0).state = .closed
      ∧ train.store.staged = some heldBurst ∧ heldBurst.bank ≠ 0 := by
  unfold Admitted
  decide +kernel

theorem witness_LoadTailActs :
    Admitted (staged 63 7) .a (toNode 1) 1 ∧ (staged 63 7).line.masked.load = false
      ∧ 73 ≤ (tailArgs 2#8 63#8 1#8 512#16).length
      ∧ (staged 63 7).store.staged = some {
          bank := 2, group := 63, start := 7, positions := List.replicate 4 (argPosition (carried 40#16) 0) }
      ∧ (bankOf (staged 63 7).store 2).state = .closed ∧ arg8 (tailArgs 2#8 63#8 1#8 512#16) 0 = (2 : Fin 4).val
      ∧ arg8 (tailArgs 2#8 63#8 1#8 512#16) 1 = 63 ∧ arg8 (tailArgs 2#8 62#8 1#8 512#16) 1 ≠ 63 := by
  unfold Admitted
  decide +kernel

theorem witness_LoadTailActs_refused :
    (Admitted allMasked .a (toNode 1) 1 ∧ allMasked.line.masked.load = true)
      ∧ (Admitted faced .a (toNode 1) 1 ∧ faced.line.masked.load = false)
      ∧ (List.replicate 72 (0#8 : Byte)).length < 73 ∧ faced.store.staged = none := by
  unfold Admitted
  decide +kernel

theorem witness_BankOpenStarts :
    Admitted loaded .a (toNode 1) 1 ∧ 3 ≤ [2#8, 2#8, 0#8].length ∧ arg8 [2#8, 2#8, 0#8] 0 = (2 : Fin 4).val
      ∧ arg16 [2#8, 2#8, 0#8] 1 = 512 ∧ arg16 [2#8, 0#8, 1#8] 1 = 1 ∧ (bankOf loaded.store 2).state = .closed
      ∧ (∀ b', (bankOf loaded.store b').state ≠ .opening) ∧ loaded.store.staged = none := by
  unfold Admitted
  decide +kernel

/-- Two bytes; bank 4; N 0 and 513; bank 1 OPEN, 2 OPENING, 3 CLOSED with a burst staged for it and none OPENING. -/
theorem witness_BankOpenStarts_refused :
    Admitted train .a (toNode 1) 1 ∧ [3#8, 0#8].length < 3 ∧ 3 < arg8 [4#8, 0#8, 1#8] 0 ∧ arg16 [3#8, 0#8, 0#8] 1 = 0
      ∧ 512 < arg16 [3#8, 2#8, 1#8] 1 ∧ (bankOf train.store 1).state = .opened
      ∧ (bankOf train.store 2).state = .opening ∧ (bankOf train.store 3).state = .closed
      ∧ (let s := { train with store := { loaded.store with staged := some heldBurst } }
        Admitted s .a (toNode 1) 1 ∧ (∀ b', (bankOf s.store b').state ≠ .opening) ∧ (bankOf s.store 3).state = .closed
          ∧ s.store.staged = some heldBurst ∧ heldBurst.bank = 3) := by
  unfold Admitted
  decide +kernel

theorem witness_BankCloseActs :
    Admitted train .a (toNode 1) 1 ∧ ([] : List Byte).length < 1 ∧ 3 < arg8 [4#8] 0
      ∧ arg8 [2#8] 0 = (2 : Fin 4).val ∧ (bankOf train.store 3).state = .closed
      ∧ (bankOf train.store 1).state = .opened ∧ bankInUse train.walker 1 = true ∧ bankInUse fresh.walker 1 = false
      ∧ (bankOf train.store 2).state = .opening ∧ train.store.verifier = some inProgress
      ∧ (bankOf (after .verifyCompletion (after (.bankOpen .a (toNode 1) [2#8, 0#8, 2#8]) loaded)).store 2).state
        = .failed := by
  unfold Admitted
  decide +kernel

theorem witness_BankEraseAndRecordRead :
    arg8 [2#8] 0 = (2 : Fin 4).val ∧ Admitted loaded .a (toNode 1) 1 ∧ loaded.line.masked.load = false
      ∧ (bankOf loaded.store 2).state = .closed ∧ loaded.store.staged = none ∧ Admitted loaded .a (toNode 3) 3
      ∧ 3 ≤ [2#8, 1#8, 0xFF#8].length ∧ arg16 [2#8, 1#8, 0xFF#8] 1 = 511 := by
  unfold Admitted
  decide +kernel

theorem witness_BankEraseAndRecordRead_refused :
    (Admitted allMasked .a (toNode 1) 1 ∧ allMasked.line.masked.load = true)
      ∧ (Admitted train .a (toNode 1) 1 ∧ train.line.masked.load = false) ∧ ([] : List Byte).length < 1
      ∧ 3 < arg8 [4#8] 0 ∧ (bankOf train.store 1).state ≠ .closed ∧ (bankOf train.store 3).state = .closed
      ∧ train.store.staged = some heldBurst ∧ heldBurst.bank = 3 ∧ [2#8, 1#8].length < 3
      ∧ 511 < arg16 [2#8, 2#8, 0#8] 1 := by
  unfold Admitted
  decide +kernel

theorem witness_VerifyCompletes :
    train.held = false ∧ train.store.verifier = some inProgress ∧ verifyRecords (bankOf train.store 2).slots 1 = none
      ∧ verifyRecords loaded.store.bank2.slots 2 = some (1, .cantSign)
      ∧ verifyRecords loaded.store.bank2.slots 3 = some (1, .cantSign)
      ∧ verifyRecords [] 1 = some (0, .unwritten) := by decide +kernel

theorem witness_StrokeRequests :
    let bytes := (defaultStrokes.flatMap fun x => bytes16 (BitVec.ofInt 16 x)) ++ [1#8]
    let table := (List.range 17).map fun i => argInt16 bytes (2 * i)
    let fallen := table.take 16 ++ [770]
    let far := table.take 8 ++ [51] ++ table.drop 9
    Admitted faced .a (toNode 0) 0 ∧ faced.line.masked.load = false ∧ 35 ≤ bytes.length ∧ arg8 bytes 34 = 1
      ∧ (Admitted allMasked .a (toNode 0) 0 ∧ allMasked.line.masked.load = true)
      ∧ (bytes.take 34).length < 35 ∧ 1 < arg8 (bytes.take 34 ++ [2#8]) 34
      ∧ ¬ (∀ x ∈ argInt16 [0xD8#8, 0xF0#8] 0 :: table, -9999 ≤ x ∧ x ≤ 9999)
      ∧ far.Pairwise (· < ·) ∧ 50 < (strokeAt far 8).natAbs
      ∧ StrokeLaw table ∧ (∀ x ∈ fallen, -9999 ≤ x ∧ x ≤ 9999) ∧ strokeAt fallen 16 ≤ strokeAt fallen 15
      ∧ (∀ j < 15, strokeAt fallen j < strokeAt fallen (j + 1)) ∧ Admitted faced .a (toNode 3) 3 := by
  unfold Admitted StrokeLaw
  decide +kernel

theorem witness_HoldActs :
    Admitted faced .b (toNode 2) 2 ∧ (holding 0).mode.holdFlag = true ∧ (moving .fault 0).mode.holdFlag = false
      ∧ (moving .fault 0).mode.mode = .fault ∧ (moving .centring 0).mode.mode = .centring
      ∧ (moving .predictive 0).mode.mode = chosenToMode .predictive := by
  unfold Admitted
  decide +kernel

theorem witness_ReleaseActs :
    Admitted (holding 0) .a (toNode 2) 2 ∧ faced.mode.holdFlag = false ∧ (holding 0).mode.holdFlag = true
      ∧ (holding 0).mode.mode = .hold ∧ (holding 0).mode.holdReturn = some .reactive ∧ (holding 0).holdReply.isSome
      ∧ (faulted .ok).mode.holdFlag = true ∧ (faulted .ok).mode.mode = .fault := by
  unfold Admitted
  decide +kernel

theorem witness_ResumeActs :
    Admitted (faulted .ok) .a (toNode 2) 2 ∧ faced.mode.mode ≠ .fault ∧ (faulted .ok).mode.mode = .fault
      ∧ (faulted .ok).mode.firstCause = some .driveFault ∧ ¬ (faulted .fault).mode.ackStatus ≠ some .fault
      ∧ (faulted .ok).mode.ackStatus ≠ some .fault ∧ (faulted .ok).mode.holdFlag = true
      ∧ { (faulted .ok).mode with holdFlag := false }.holdFlag = false := by
  unfold Admitted
  decide +kernel

theorem witness_AuditActs :
    Admitted faced .a (toNode 3) 3 ∧ faced.line.masked.audit = false ∧ arg16 [0#8, 16#8] 0 = 16
      ∧ (Admitted allMasked .a (toNode 3) 3 ∧ allMasked.line.masked.audit = true) ∧ [16#8].length < 2
      ∧ arg16 [0#8, 15#8] 0 < 16 ∧ (Admitted train .a (toNode 3) 3 ∧ train.line.masked.audit = false)
      ∧ (audited 14 false).audit.pending = none ∧ faced.audit.armed = false ∧ (audited 15 true).audit.valid = true
      ∧ (audited 14 false).audit.period ≠ some ((audited 14 false).audit.counter + 1)
      ∧ (audited 15 false).audit.period = some ((audited 15 false).audit.counter + 1)
      ∧ train.audit.pending = some { seq := 5#8, isMove := true } ∧ train.audit.record = some taggedRecord := by
  unfold Admitted
  decide +kernel

theorem witness_FeatureMaskActs :
    Admitted train .a (toNode 0) 0 ∧ ([] : List Byte).length < 1 ∧ 1 ≤ [15#8].length
      ∧ (∀ i : Fin 8, 4 ≤ i.val → argBit [15#8] 0 i.val = false)
      ∧ (∀ i : Fin 4, argBit [15#8] 0 i.val = true) ∧ train.store.staged ≠ none ∧ train.mode.mode = .predictive
      ∧ argBit [0x10#8] 0 4 = true ∧ argBit [0x80#8] 0 7 = true := by
  unfold Admitted
  decide +kernel

theorem witness_RestartActs :
    Admitted (holding 0) .a toAll 0 ∧ (holding 0).holdReply.isSome ∧ (holding 0).mode.mode ≠ .centring
      ∧ faced.mode.mode = .centring := by
  unfold Admitted
  decide +kernel

/-! #### Position, preview, step and drive -/

theorem witness_OdometryActs :
    car3.held = false ∧ standing.held = false ∧ car3.line.upstream = none ∧ standing.line.upstream = some .a ∧ standing.pos.dir = .up
      ∧ standing.line.upstream = some (otherPort .b) ∧ (0x80#8 : Byte).getLsbD 0 = false ∧ (0x81#8 : Byte).getLsbD 0 = true
      ∧ min 9000 (0#16 : Word16).toNat = 0 ∧ 0 < min 9000 (1#16 : Word16).toNat := by decide +kernel

theorem witness_FaultsTaken :
    train.held = false ∧ train.pos.watchdog = .running ∧ train.clock.arrival = some 0 ∧ (faulted .ok).mode.mode = .fault
      ∧ train.mode.mode = chosenToMode .predictive
      ∧ ((holding 0).mode.mode = .hold ∧ (holding 0).mode.holdReturn = some .reactive)
      ∧ (fresh.mode.mode = .centring ∧ fresh.mode.target = .off) := by decide +kernel

/-- Fix decisions at the bound of R16: u + accuracy + 10 = 76, and one beyond it. -/
theorem witness_FixActs :
    (car1 16 1).held = false ∧ fresh.held = false ∧ (car1 16 1).line.upstream = some (otherPort .b) ∧ fresh.line.upstream = none ∧ (car1 16 1).line.upstream = some .a
      ∧ (car1 16 1).pos.lead = true
      ∧ ((111 : Int) - (car1 16 1).pos.fixOffset).natAbs = (car1 16 1).pos.u + min 50 (255#8 : Byte).toNat + 10
      ∧ (car1 16 1).pos.u + min 50 (255#8 : Byte).toNat + 10 < ((112 : Int) - (car1 16 1).pos.fixOffset).natAbs
      ∧ (car1 16 1).pos.rejections < 2 ∧ (car1 16 2).pos.rejections = 2 ∧ faced.pos.lead = false := by decide +kernel

/-- A follower's queue of a given number of entries, the newest at 500,000. -/
def queueOf (n : Nat) : State := { faced with
  queue := { faced.queue with
    entries := (List.range n).map fun i => { chainage := 500001 - n + i, accel := 0, valid := true, seq := 0#8 } } }

theorem witness_SampleActs :
    faced.held = false ∧ (queueOf 512).held = false ∧ faced.line.upstream ≠ some .b ∧ (car1 6 0).pos.lead = true ∧ faced.line.upstream = some .a ∧ faced.pos.lead = false
      ∧ faced.queue.entries = [] ∧ (queueOf 512).queue.entries.length = 512 ∧ (queueOf 511).queue.entries.length < 512
      ∧ (queueOf 2).queue.entries = [⟨499999, 0, true, 0#8⟩] ++ [⟨500000, 0, true, 0#8⟩]
      ∧ (0 : Int) < 1 * ((500001 : Int) - 500000) ∧ 1 * ((499999 : Int) - 500000) < 0 := by decide +kernel

theorem witness_SenseActs :
    faced.held = false ∧ (sensing 500010 none 0#8).held = false ∧ faced.pos.lead = false ∧ (sensing 500009 (some 500000) 0#8).pos.lead = true
      ∧ (sensing 500009 (some 500000) 0#8).queue.lastOriginated = some 500000
      ∧ (positionQuery (sensing 500009 (some 500000) 0#8)).b = 500009
      ∧ (sensing 500009 (some 500000) 0#8).params.strideDm = 10
      ∧ (positionQuery (sensing 500010 (some 500000) 0#8)).b = 500010
      ∧ (sensing 500010 none 0#8).queue.lastOriginated = none
      ∧ (sensing 500010 none 0#8).line.upstream = some .a := by decide +kernel

/-- The entries of 5.9 in both directions; at 498,907 the nearest behind is 498,900 and the nearest beyond 498,910. -/
theorem witness_ReactiveAnswered :
    let gap (e : PreviewEntry) : Int := 1 * ((498907 : Int) - e.chainage)
    Increasing 1 sixEntries.entries ∧ Increasing (-1) sixEntries.entries.reverse
      ∧ (⟨498900, 300, true, 2#8⟩ : PreviewEntry) ∈ sixEntries.entries
      ∧ (∀ e ∈ sixEntries.entries, 0 ≤ gap e → gap ⟨498900, 300, true, 2#8⟩ ≤ gap e)
      ∧ (⟨498910, 335, true, 3#8⟩ : PreviewEntry) ∈ sixEntries.entries
      ∧ (∀ e ∈ sixEntries.entries, gap e < 0 → gap e ≤ gap ⟨498910, 335, true, 3#8⟩)
      ∧ (∀ e ∈ sixEntries.entries, (0 : Int) ≤ 1 * ((498950 : Int) - e.chainage))
      ∧ (∀ e ∈ sixEntries.entries, 1 * ((498879 : Int) - e.chainage) < 0) := by
  unfold Increasing
  decide +kernel

/-- hold_tol is 10: an angle of 290 lies at its end from a command of 300; at command 0, 10 ends centring. -/
theorem witness_DriveAckActs :
    (moving .centring 0).held = false ∧ fresh.drive.outstanding = none
      ∧ (∃ x, (moving .centring 0).drive.outstanding = some x ∧ x.answered = false ∧ x.seq = 5#8 ∧ x.kind ≠ .query)
      ∧ (∃ x, (after .stepExpiry fresh).drive.outstanding = some x ∧ x.answered = false ∧ x.kind = .query)
      ∧ (moving .centring 0).holdReply = none ∧ (moving .centring 0).mode.prevCommand = some 0
      ∧ toAngle defaultStrokes 11 = 10 ∧ toAngle defaultStrokes 12 = 11 ∧ toAngle defaultStrokes 319 = 290
      ∧ (holding 0).holdReply.isSome ∧ (holding 0).mode.settle = 0 ∧ (holding 1).mode.settle = 1
      ∧ ((290 : Int) - 300).natAbs ≤ (holding 0).params.holdTol ∧ ¬ ((289 : Int) - 300).natAbs ≤ (holding 0).params.holdTol :=
  ⟨rfl, rfl, ⟨_, rfl, rfl, rfl, nofun⟩, ⟨_, rfl, rfl, rfl⟩, by decide +kernel⟩

theorem witness_StepActs :
    (fresh.held = false ∧ (moving .reactive 300).held = false) ∧ fresh.mode.prevCommand = none
      ∧ (holding 0).mode.prevCommand = some 300 ∧ (holding 0).mode.mode = .hold
      ∧ (moving .reactive 300).mode.prevCommand = some 300 ∧ (moving .reactive 300).mode.mode ≠ .hold
      ∧ (∃ x, (moving .reactive 300).drive.outstanding = some x ∧ x.answered = false)
      ∧ 2 ≤ (moving .reactive 300).drive.missCount ∧ ¬ 2 ≤ (after .stepExpiry fresh).drive.missCount
      ∧ (∃ x, (after .stepExpiry fresh).drive.outstanding = some x ∧ x.answered = false)
      ∧ fresh.drive.outstanding = none :=
  ⟨⟨rfl, rfl⟩, rfl, rfl, rfl, rfl, nofun, ⟨_, rfl, rfl⟩, by decide +kernel, by decide +kernel, ⟨_, rfl, rfl⟩, rfl⟩

/-- The step of 6.9, where θ_p is 547 and θ_r 520, as the last of a run of disagreements of which two are asked for, and
with a third miss and an armed audit one short of its period. -/
def disagreeing : State := { stepping with
  params := { stepping.params with disagreeCdeg := 5, disagreeSteps := 2 }
  demand := { stepping.demand with runCount := 1 }
  drive := { stepping.drive with outstanding := some { seq := 255#8, kind := .query, answered := false }, missCount := 2 }
  audit := { armed := true, period := some 16, counter := 15 } }

/-- It reports DISAGREE under tag 0, the FAULT and MODE reports of DRIVE_SILENT wait after it, and the step is tagged. -/
theorem witness_StepActs_whole :
    (after .stepExpiry disagreeing).line.portA.sending = some {
        h := { dest := 0#8, source := 3#8, level := 0#8, tag := 0#16, hop := 0#8 }
        body := .report (.disagree { thetaP := 547, thetaR := 520, run := 2, car := 499335, active := 11 }) }
      ∧ ((after .stepExpiry disagreeing).line.portA.own.map fun f => f.h.tag) = [1#16, 2#16]
      ∧ (after .stepExpiry disagreeing).audit.pending = some { seq := 0#8, isMove := true } := by decide +kernel

/-- The stages of a step on a given mode, fade count, speed, section present or not, and reactive answer. -/
def stagesAt (m : Mode) (fade v : Nat) (form : RouteForm) (re : ReactiveAnswer) : Stages :=
  stagesOf fresh.params m { fresh.demand with fadeCount := fade } v
    { form := form, active := 11, kind := some .plain, outcome := .known, lowest := none, source := none, lEff := 800 } re

/-- hold_steps is 50, v_min 1,111. -/
theorem witness_StagesBlendAndLimit :
    let here := RouteForm.onSection { kappa := 800, cant := 150, record := some 0, comp := none }
    let full := stagesAt .predictive 0 1111 here (.held 10 0)
    let alone := stagesAt .predictive 0 1110 here .gap
    let felt := stagesAt .reactive 0 1111 here (.interpolated 10 0 1)
    let lost := stagesAt .predictive 49 1111 .noSection .invalid
    (full.predictive = .available ∧ full.reactive = .available ∧ full.thetaP.isSome ∧ full.thetaR.isSome)
      ∧ (alone.predictive = .available ∧ alone.reactive = .gap ∧ alone.gated = true)
      ∧ (felt.predictive = .mode ∧ felt.reactive = .available ∧ felt.gated = false)
      ∧ (lost.predictive = .noSection ∧ lost.reactive = .invalid ∧ 49 < fresh.params.holdSteps)
      ∧ fresh.params.holdSteps ≤ 50 := by decide +kernel

theorem witness_StrokesConvertBack :
    StrokeLaw defaultStrokes ∧ toStroke defaultStrokes .nearest (-800) = -880
      ∧ toStroke defaultStrokes .truncate 800 = 880 := by
  unfold StrokeLaw
  decide +kernel

/-- The cursor of 4.8, and its record 9 read at the ends of its entry, body and exit, and just past it. -/
theorem witness_CursorFindsRecord :
    (advanceCursor recordsOfExample 1 497000 9 3 .unplaced = .atRecord 10
      ∧ advanceCursor recordsOfExample (-1) 497000 9 3 .unplaced = .atRecord 10
      ∧ advanceCursor recordsOfExample 1 499900 9 3 (.atRecord 9) = .exhausted
      ∧ advanceCursor recordsOfExample 1 499899 9 3 (.atRecord 9) = .atRecord 11
      ∧ advanceCursor recordsOfExample (-1) 494000 9 3 (.atRecord 11) = .atRecord 9
      ∧ advanceCursor recordsOfExample (-1) 493999 9 3 (.atRecord 11) = .exhausted)
      ∧ (let d := stretch (.curveList 1 0 12) 490000 155 .coarse 12 10
        let at9 (p : Nat) := trainGeometry (-1) (sectionGeometry (onRoute 0 0).store (.atRecord 9) d p)
        d.kind = .curveList 1 0 12
          ∧ slotGet (bankOf (onRoute 0 0).store 1).slots 9 = some (plainRecord 494000 600 1800 600 (-900) (-120))
          ∧ at9 493999 = { kappa := 0, cant := 0, comp := none, record := none }
          ∧ at9 494000 = { kappa := 0, cant := 0, comp := none, record := some 9 }
          ∧ at9 494599 = { kappa := 898, cant := 119, comp := none, record := some 9 }
          ∧ at9 494600 = { kappa := 900, cant := 120, comp := none, record := some 9 }
          ∧ at9 496399 = { kappa := 900, cant := 120, comp := none, record := some 9 }
          ∧ at9 496400 = { kappa := 900, cant := 120, comp := none, record := some 9 }
          ∧ at9 496999 = { kappa := 1, cant := 0, comp := none, record := some 9 }
          ∧ at9 497000 = { kappa := 0, cant := 0, comp := none, record := none }
          ∧ trainGeometry 1 (sectionGeometry (onRoute 0 0).store .exhausted d 495000)
            = { kappa := 0, cant := 0, comp := none, record := none }) := by decide +kernel

/-! The walks of 2.6 from section 11, and others, for each clause of RouteAnswered. -/

/-- The descriptors of onRoute's sections 11, 12 and 13. -/
def section11 : Descriptor := stretch (.curveList 1 0 12) 490000 155 .coarse 12 10
def section12 : Descriptor := stretch .noTilt 499984 1199 .fine 13 11
def section13 : Descriptor := stretch (.reduced 300) 501184 815 .fine 14 12

/-- The law of R38 holds of the train of 4.8 wherever it stands, and its position is usable. -/
theorem witness_RouteAnswered_law (car : Nat) (command : Int) :
    ActiveSectionLaw (onRoute car command) ∧ (onRoute car command).walker.active ≠ 0
      ∧ slotGet (onRoute car command).walker.descs (onRoute car command).walker.active = some section11
      ∧ slotGet (onRoute car command).walker.descs 12 = some section12
      ∧ slotGet (onRoute car command).walker.descs 13 = some section13 :=
  ⟨fun _ => ⟨section11, rfl, rfl, Nat.le_of_ble_eq_true rfl⟩, nofun, rfl, rfl, rfl⟩

/-- No position, and no active section. -/
theorem witness_RouteAnswered :
    (positionQuery { onRoute 499100 0 with pos := { (onRoute 499100 0).pos with u := 65535 } }).usable = false
      ∧ (let s := { onRoute 499100 0 with walker := faced.walker }
        (positionQuery s).usable = true ∧ s.walker.active = 0) := by decide +kernel

/-- p at both ends of section 11 stays in it; with the last walk point ahead of it the cursor is first UNPLACED. -/
theorem witness_RouteAnswered_stays :
    (positionQuery (onRoute 489835 0)).usable = true ∧ (positionQuery (onRoute 489835 0)).p = 490000
      ∧ Inside section11 490000 ∧ Inside section11 499983 ∧ (490000 : Int) - 494000 < 0
      ∧ (onRoute 489835 0).walker.lastPoint = some 494000
      ∧ ¬ (positionQuery (onRoute 499818 0)).d * (((positionQuery (onRoute 499818 0)).p : Int) - 494000) < 0 := by
  decide +kernel

/-- p at the ends of what lies beyond: the first link enters at both ends of section 12, the second at section 13,
the third finds bank 2 CLOSED. -/
theorem witness_RouteAnswered_beyond :
    let s := onRoute 501935 0
    (positionQuery s).usable = true ∧ (positionQuery s).d = 1 ∧ Beyond section11 1 499984 ∧ ¬ Beyond section11 1 499983
      ∧ (pathAhead s.walker 1 1 = 12 ∧ Enters s.walker s.store 12 section12 ∧ Inside section12 499984
        ∧ Inside section12 501183 ∧ Beyond section12 1 501184)
      ∧ (pathAhead s.walker 1 2 = 13 ∧ Enters s.walker s.store 13 section13 ∧ Inside section13 501184
        ∧ Inside section13 501999 ∧ Beyond section13 1 502000)
      ∧ pathAhead s.walker 1 3 = 14 ∧ EntryFails s.walker s.store 14 .bankNotOpen :=
  ⟨by decide +kernel, by decide +kernel, by decide, by decide,
    ⟨rfl, ⟨rfl, trivial⟩, by decide, by decide, by decide⟩, ⟨rfl, ⟨rfl, trivial⟩, by decide, by decide, by decide⟩, rfl, rfl⟩

/-- A chain of one-decimetre sections from 100 on, of a given number of links, then of a section that starts at a given
point and ends there. -/
def chain (links last : Nat) : Walker := { faced.walker with
  active := 1
  descs := (List.range links).map (fun i => (i + 1, stretch .plain (100 + i) 0 .fine (i + 2) 63))
    ++ [(links + 1, stretch .plain last 0 .fine 0 0)] }

/-- From a chain's first section: a link of 0 ends the walk after 1 and 3 links; a section that starts past p loses it;
and so does a fourth that p lies beyond. -/
theorem witness_RouteAnswered_lost :
    (pathAhead (chain 0 100) 1 1 = 0 ∧ pathAhead (chain 3 103) 1 4 = 0)
      ∧ (pathAhead (chain 1 105) 1 1 = 2 ∧ Enters (chain 1 105) {} 2 (stretch .plain 105 0 .fine 0 0)
        ∧ Behind (stretch .plain 105 0 .fine 0 0) 1 104 ∧ Beyond (stretch .plain 100 0 .fine 2 63) 1 104)
      ∧ (∀ j : Fin 4, pathAhead (chain 4 104) 1 (j.val + 1) = j.val + 2)
      ∧ (Enters (chain 4 104) {} 2 (stretch .plain 101 0 .fine 3 63) ∧ Beyond (stretch .plain 101 0 .fine 3 63) 1 105)
      ∧ (Enters (chain 4 104) {} 3 (stretch .plain 102 0 .fine 4 63) ∧ Beyond (stretch .plain 102 0 .fine 4 63) 1 105)
      ∧ (Enters (chain 4 104) {} 4 (stretch .plain 103 0 .fine 5 63) ∧ Beyond (stretch .plain 103 0 .fine 5 63) 1 105)
      ∧ Enters (chain 4 104) {} 5 (stretch .plain 104 0 .fine 0 0) ∧ Beyond (stretch .plain 104 0 .fine 0 0) 1 105 :=
  ⟨⟨rfl, rfl⟩, ⟨rfl, ⟨rfl, trivial⟩, by decide, by decide⟩, by decide +kernel,
    ⟨⟨rfl, trivial⟩, by decide⟩, ⟨⟨rfl, trivial⟩, by decide⟩, ⟨⟨rfl, trivial⟩, by decide⟩, ⟨rfl, trivial⟩, by decide⟩

/-- Travelling DOWN along the chain p = 105 lies behind its first section: its link UP enters a section that holds 105,
names an absent descriptor, is 0, or enters one that does not hold it. -/
theorem witness_RouteAnswered_behind :
    Behind (stretch .plain 100 0 .fine 2 63) (-1) 105
      ∧ (Enters (chain 1 105) {} 2 (stretch .plain 105 0 .fine 0 0) ∧ Inside (stretch .plain 105 0 .fine 0 0) 105)
      ∧ (Enters (chain 1 104) {} 2 (stretch .plain 104 0 .fine 0 0) ∧ ¬ Inside (stretch .plain 104 0 .fine 0 0) 105)
      ∧ Behind (stretch .plain 100 0 .fine 0 0) (-1) 105
      ∧ EntryFails (chain 0 100) {} 63 .sectionAbsent ∧ Behind (stretch .plain 100 0 .fine 2 63) 1 99
      ∧ (stretch .plain 100 0 .fine 2 63).nextDown = 63 :=
  ⟨by decide, ⟨⟨rfl, trivial⟩, by decide⟩, ⟨⟨rfl, trivial⟩, by decide⟩, by decide, rfl, by decide, rfl⟩

/-- After the walk: no section; the search within section 11, of which record 11 contributes 450 from its start on; into
section 12, which contributes 0; to a last section, without a next; and to one whose bank is CLOSED. -/
theorem witness_RouteAnswered_search :
    ((positionQuery (onRoute 501935 0)).usable = true ∧ (answerAt 502100 0).1.walker.active = 0)
      ∧ (answerAt 499365 0).1.walker.active = 11
      ∧ Restricts (onRoute 0 0).store 11 section11 { selector := 11, record := some 11 } 450 499300 499899
      ∧ (answerAt 499265 544).1.walker.active = 11 ∧ Beyond section11 1 499984
      ∧ Enters (onRoute 0 0).walker (onRoute 0 0).store 12 section12
      ∧ Restricts (onRoute 0 0).store 12 section12 { selector := 12, record := none } 0 499984 501183
      ∧ (answerAt 501900 544).1.walker.active = 13 ∧ section13.nextUp = 14
      ∧ EntryFails (onRoute 0 0).walker (onRoute 0 0).store 14 .bankNotOpen
      ∧ (answerAt 501900 544).2.outcome = .unknown (.entry .bankNotOpen) ∧ (chain 0 100).active ≠ 0
      ∧ (stretch .plain 100 0 .fine 0 0).nextUp = 0 ∧ Beyond (stretch .plain 100 0 .fine 0 0) 1 101 :=
  ⟨by decide +kernel, by decide +kernel,
    ⟨rfl, by decide, by decide, { plainRecord 499300 0 400 200 400 50 with limit := some 450 }, rfl, rfl, by decide,
      by decide, by decide⟩,
    by decide +kernel, by decide, ⟨rfl, trivial⟩, ⟨rfl, rfl, rfl, rfl⟩, by decide +kernel, rfl, rfl, by decide +kernel,
    nofun, rfl, by decide⟩

end Sys2Proof.Tests
end

/-! SUPPORT. Which actions keep the position unit, the parameters and the floors. -/

namespace Sys2Proof.Machine

open Sys2Proof.Safety

/-! ### Commands, one block at a time -/

/-- What holds before a command and after its action holds after the command, held in device reset or not. -/
theorem of_unlessHeld {P : State → Prop} {f : State → State} {s t : State} (hs : P s) (he : unlessHeld f s = .next t)
    (hf : P (f s)) : P t := by
  cases hh : s.held
  · rw [unlessHeld_awake hh] at he; cases he; exact hf
  · rw [unlessHeld_held hh] at he; cases he; exact hs

namespace LineBlind

variable {P : State → Prop} (hb : LineBlind P)

include hb

theorem takePayload (hrow : ∀ row ∈ catalogue, ∀ r s, P s → P (row.take r s).1) {p : Port} {h : Header}
    {payload : List Byte} {s : State} (hs : P s) : P (Machine.takePayload p h payload s) := by
  unfold Machine.takePayload
  split
  · exact hb.takeUnknown hs
  · split
    · next row hf => exact hb.takeRequest (hrow row (List.mem_of_find?_eq_some hf)) hs
    · exact hb.takeUnknown hs

/-- A command keeps a property that the requests' owners keep and that the command's own block keeps: `exec` with each
block asked for only when the command is its own, so that a statement may leave a command out. -/
theorem exec_of (hrow : ∀ row ∈ catalogue, ∀ r s, P s → P (row.take r s).1) {c : Instr}
    (hreset : ∀ e, c = .deviceReset e → ∀ straps s, P s → P (releaseReset straps s))
    (hodo : ∀ p h x v d rest, c = .odometry p h x v d rest → ∀ s, P s → P (takeOdometry p h.hop x v d s))
    (hexp : c = .odoLost → ∀ s, P s → P (watchdogExpiry s))
    (hfix : ∀ p h b x a v rest, c = .fix p h b x a v rest → ∀ s, P s → P (takeFix p b x a v s).1)
    (hsample : ∀ p h x a f q rest, c = .sample p h x a f q rest → ∀ e s, P s → P (takeSample p e s))
    (hsense : ∀ a f, c = .sense a f → ∀ s, P s → P (senseFrame a f s))
    (hack : ∀ q x st, c = .driveAck q x st → ∀ s, P s → P (receiveAck q x st s))
    (hstep : c = .stepExpiry → ∀ s, P s → P (runStep s))
    (hverify : c = .verifyCompletion → ∀ s, P s → P (verifyCompletes s))
    {s t : State} (hs : P s) (he : Machine.exec c s = .next t) : P t := by
  have hpay : ∀ p h payload, P (Machine.receiveRequest (Machine.takePayload p h payload) p h payload s) :=
    fun _ _ _ => hb.receiveRequest (fun _ h' => hb.takePayload hrow h') hs
  have hreq : ∀ row ∈ catalogue, ∀ p h args, P (receiveRow row p h args s) := fun row hm _ _ _ =>
    hb.receiveRequest (fun _ h' => hb.takeRequest (hrow row hm) h') hs
  cases c
  case deviceReset e =>
    cases e <;> cases he
    · exact hb.held _ _ (hreset _ rfl _ _ hs)
    · exact hreset _ rfl _ _ hs
  case odometry => exact of_unlessHeld hs he (hb.forward (hodo _ _ _ _ _ _ rfl _ (hb.countReceived hs)))
  case odoLost => exact of_unlessHeld hs he (hexp rfl _ hs)
  case fix => exact of_unlessHeld hs he (hb.forward (hfix _ _ _ _ _ _ _ rfl _ (hb.countReceived hs)))
  case sample => exact of_unlessHeld hs he (hb.forward (hsample _ _ _ _ _ _ _ rfl _ _ (hb.countReceived hs)))
  case sense => exact of_unlessHeld hs he (hsense _ _ rfl _ hs)
  case localFrameDiscard => cases he; exact hs
  case driveAck => exact of_unlessHeld hs he (hack _ _ _ rfl _ hs)
  case stepExpiry => exact of_unlessHeld hs he (hstep rfl _ hs)
  case verifyCompletion => exact of_unlessHeld hs he (hverify rfl _ hs)
  case transmissionCompletion => exact of_unlessHeld hs he (hb.onPort hs)
  case checkError => exact of_unlessHeld hs he (hb.onPort hs)
  case frameForward p h body =>
    cases body
    · exact of_unlessHeld hs he (hpay _ _ _)
    · exact of_unlessHeld hs he (hb.forward (hb.countReceived hs))
  case trailDrop => exact of_unlessHeld hs he (hpay _ _ _)
  case requestUnknown => exact of_unlessHeld hs he (hb.receiveRequest (fun _ h' => hb.takeUnknown h') hs)
  all_goals exact of_unlessHeld hs he (hreq _ (by simp [catalogue]) _ _ _)

end LineBlind

/-! ### Actions that keep the position unit, the parameters and the floors -/

/-- The parameters and the floors of t are those of s. -/
structure ParamsKept (s t : State) : Prop where
  params : t.params = s.params
  floorA : t.line.floorA = s.line.floorA
  floorB : t.line.floorB = s.line.floorB

/-- The position unit's items, the parameters and the floors of t are those of s. -/
structure SettingsKept (s t : State) : Prop extends ParamsKept s t where
  pos : t.pos = s.pos

/-- What keeps the parameters of a state, begun at one that has those of s. -/
theorem ParamsKept.since {s t u : State} (h2 : ParamsKept t u) (h1 : ParamsKept s t) : ParamsKept s u :=
  ⟨h2.params.trans h1.params, h2.floorA.trans h1.floorA, h2.floorB.trans h1.floorB⟩

theorem SettingsKept.refl (s : State) : SettingsKept s s := ⟨⟨rfl, rfl, rfl⟩, rfl⟩

theorem SettingsKept.trans {s t u : State} (h1 : SettingsKept s t) (h2 : SettingsKept t u) : SettingsKept s u :=
  ⟨h2.toParamsKept.since h1.toParamsKept, h2.pos.trans h1.pos⟩

/-- What keeps the settings of a state, begun at one that has those of s. -/
theorem SettingsKept.since {s t u : State} (h2 : SettingsKept t u) (h1 : SettingsKept s t) : SettingsKept s u :=
  h1.trans h2

/-- Frames placed keep the floors. -/
theorem FramesPlaced.settingsKept {n : Nat} {s t : State} (h : FramesPlaced n s t) (hp : t.params = s.params)
    (hx : t.pos = s.pos) : SettingsKept s t := ⟨⟨hp, h.floorA, h.floorB⟩, hx⟩

theorem settingsKept_sendReport (r : Report) (s : State) : SettingsKept s (sendReport r s) :=
  (framesPlaced_sendReport r s).settingsKept (by simp) (by simp)

theorem settingsKept_answerHold (o : SettleOutcome) (s : State) : SettingsKept s (answerHold o s) :=
  (framesPlaced_answerHold o s).settingsKept (by rw [answerHold_eq]) (by rw [answerHold_eq])

theorem settingsKept_changeMode (reason : ModeReason) (m : ModeController) (s : State) :
    SettingsKept s (changeMode reason m s) :=
  (framesPlaced_changeMode reason m s).settingsKept (by rw [changeMode_eq]) (by rw [changeMode_eq])

theorem settingsKept_takeFault (cause : FaultCause) (s : State) : SettingsKept s (takeFault cause s) :=
  (framesPlaced_takeFault cause s).settingsKept (by rw [takeFault_eq]) (by rw [takeFault_eq])

theorem settingsKept_auditAnswer (seq : Byte) (stroke angle : Int) (status : AckStatus) (s : State) :
    SettingsKept s (auditAnswer seq stroke angle status s) :=
  (framesPlaced_auditAnswer seq stroke angle status s).settingsKept (by rw [auditAnswer_eq]) (by rw [auditAnswer_eq])

theorem settingsKept_auditHandover (sum : StepSummary) (d : Drive) (s : State) :
    SettingsKept s (auditHandover sum d s) :=
  (framesPlaced_auditHandover sum d s).settingsKept (by rw [auditHandover_eq]) (by rw [auditHandover_eq])

theorem settingsKept_runStages (g : Stages) (pa : PositionAnswer) (ra : RouteAnswer) (s : State) :
    SettingsKept s (runStages g pa ra s) :=
  (framesPlaced_runStages g pa ra s).settingsKept (by rw [runStages_eq]) (by rw [runStages_eq])

/-! ### The owners of the requests -/

/-- An owner's action on its request keeps the position unit, the parameters and the floors. -/
def OwnerKeeps (take : Request → State → State × Answer) : Prop := ∀ r s, SettingsKept s (take r s).1

theorem ownerKeeps_statusRead : OwnerKeeps takeStatusRead := by
  intro r s
  unfold takeStatusRead
  (repeat' split) <;> exact ⟨⟨rfl, rfl, rfl⟩, rfl⟩

theorem ownerKeeps_paramRead : OwnerKeeps takeParamRead := by
  intro r s
  unfold takeParamRead
  (repeat' split) <;> exact ⟨⟨rfl, rfl, rfl⟩, rfl⟩

theorem ownerKeeps_modeSet : OwnerKeeps takeModeSet := by
  intro r s
  unfold takeModeSet
  split
  · exact .refl s
  · split
    · exact .refl s
    · split_ifs
      · exact .refl s
      · exact .refl s
      · exact .refl s
      · exact settingsKept_changeMode ..

theorem ownerKeeps_descWrite : OwnerKeeps takeDescWrite := by
  intro r s
  unfold takeDescWrite
  dsimp only
  (repeat' split) <;> exact ⟨⟨rfl, rfl, rfl⟩, rfl⟩

theorem ownerKeeps_descClear : OwnerKeeps takeDescClear := by
  intro r s
  unfold takeDescClear
  dsimp only
  (repeat' split) <;> exact ⟨⟨rfl, rfl, rfl⟩, rfl⟩

theorem ownerKeeps_descRead : OwnerKeeps takeDescRead := by
  intro r s
  unfold takeDescRead
  dsimp only
  (repeat' split) <;> exact ⟨⟨rfl, rfl, rfl⟩, rfl⟩

theorem ownerKeeps_sectionSelect : OwnerKeeps takeSectionSelect := by
  intro r s
  unfold takeSectionSelect
  dsimp only
  (repeat' split) <;> exact ⟨⟨rfl, rfl, rfl⟩, rfl⟩

theorem ownerKeeps_loadHead : OwnerKeeps takeLoadHead := by
  intro r s
  unfold takeLoadHead
  (repeat' split) <;> exact ⟨⟨rfl, rfl, rfl⟩, rfl⟩

theorem ownerKeeps_loadTail : OwnerKeeps takeLoadTail := by
  intro r s
  unfold takeLoadTail
  (repeat' split) <;> exact ⟨⟨rfl, rfl, rfl⟩, rfl⟩

theorem ownerKeeps_bankOpen : OwnerKeeps takeBankOpen := by
  intro r s
  unfold takeBankOpen
  (repeat' split) <;> exact ⟨⟨rfl, rfl, rfl⟩, rfl⟩

theorem ownerKeeps_bankClose : OwnerKeeps takeBankClose := by
  intro r s
  unfold takeBankClose
  split
  · exact .refl s
  · split
    · exact .refl s
    · split
      · exact .refl s
      · split <;> exact ⟨⟨rfl, rfl, rfl⟩, rfl⟩
      · exact ⟨⟨rfl, rfl, rfl⟩, rfl⟩
      · exact (settingsKept_sendReport ..).since ⟨⟨rfl, rfl, rfl⟩, rfl⟩

theorem ownerKeeps_bankErase : OwnerKeeps takeBankErase := by
  intro r s
  unfold takeBankErase
  (repeat' split) <;> exact ⟨⟨rfl, rfl, rfl⟩, rfl⟩

theorem ownerKeeps_recordRead : OwnerKeeps takeRecordRead := by
  intro r s
  unfold takeRecordRead
  (repeat' split) <;> exact ⟨⟨rfl, rfl, rfl⟩, rfl⟩

theorem ownerKeeps_strokeLoad : OwnerKeeps takeStrokeLoad := by
  intro r s
  unfold takeStrokeLoad
  dsimp only
  (repeat' split) <;> exact ⟨⟨rfl, rfl, rfl⟩, rfl⟩

theorem ownerKeeps_strokeRead : OwnerKeeps takeStrokeRead := fun _ s => .refl s

theorem ownerKeeps_hold : OwnerKeeps takeHold := by
  intro r s
  unfold takeHold
  split_ifs
  · exact .refl s
  · exact ⟨⟨rfl, rfl, rfl⟩, rfl⟩
  · exact (settingsKept_changeMode ..).since ⟨⟨rfl, rfl, rfl⟩, rfl⟩

theorem ownerKeeps_release : OwnerKeeps takeRelease := by
  intro r s
  unfold takeRelease
  split
  · refine (settingsKept_answerHold ..).since ?_
    split
    · exact settingsKept_changeMode ..
    · exact ⟨⟨rfl, rfl, rfl⟩, rfl⟩
  · exact .refl s

theorem ownerKeeps_resume : OwnerKeeps takeResume := by
  intro r s
  unfold takeResume
  split_ifs
  · exact .refl s
  · exact .refl s
  · exact settingsKept_changeMode ..
  · exact settingsKept_changeMode ..

theorem ownerKeeps_auditArm : OwnerKeeps takeAuditArm := by
  intro r s
  unfold takeAuditArm
  (repeat' split) <;> exact ⟨⟨rfl, rfl, rfl⟩, rfl⟩

/-- The effects of newly masked features keep the settings (R166). -/
theorem settingsKept_maskEffects (before after : Features) (s : State) :
    SettingsKept s (maskEffects before after s) := by
  have hpred : SettingsKept s (if after.predictive && !before.predictive then maskPredictive s else s) := by
    split
    · exact settingsKept_changeMode ..
    · exact .refl s
  have haudit (x : State) : SettingsKept x (if after.audit && !before.audit then maskAudit x else x) := by
    split <;> exact ⟨⟨rfl, rfl, rfl⟩, rfl⟩
  have hload (x : State) : SettingsKept x (if after.load && !before.load then maskLoad x else x) := by
    split <;> exact ⟨⟨rfl, rfl, rfl⟩, rfl⟩
  exact (hpred.trans (haudit _)).trans (hload _)

theorem ownerKeeps_featureMask : OwnerKeeps takeFeatureMask := by
  intro r s
  unfold takeFeatureMask
  split
  · exact .refl s
  · exact (settingsKept_maskEffects ..).since ⟨⟨rfl, rfl, rfl⟩, rfl⟩

theorem ownerKeeps_restart : OwnerKeeps takeRestart := by
  intro r s
  have hstore : SettingsKept s
      (restartStore { s with queue := flushQueue s.queue, demand := restartedDemand s.demand }) :=
    ⟨⟨rfl, rfl, rfl⟩, rfl⟩
  have hmode (x : State) : SettingsKept x (restartMode x) :=
    (settingsKept_answerHold ..).trans (settingsKept_changeMode ..)
  have haudit (x : State) : SettingsKept x (restartAudit x) := ⟨⟨rfl, rfl, rfl⟩, rfl⟩
  exact (hstore.trans (hmode _)).trans (haudit _)

/-- PARAM SET apart, every owner of requests keeps the settings. -/
theorem ownerKeeps_catalogue : ∀ row ∈ catalogue, row = paramSetRow ∨ OwnerKeeps row.take := by
  simp only [catalogue, List.forall_mem_cons]
  exact ⟨.inr ownerKeeps_statusRead, .inl trivial, .inr ownerKeeps_paramRead, .inr ownerKeeps_modeSet,
    .inr ownerKeeps_descWrite, .inr ownerKeeps_descClear, .inr ownerKeeps_descRead, .inr ownerKeeps_loadHead,
    .inr ownerKeeps_loadTail, .inr ownerKeeps_bankOpen, .inr ownerKeeps_bankClose, .inr ownerKeeps_bankErase,
    .inr ownerKeeps_recordRead, .inr ownerKeeps_strokeLoad, .inr ownerKeeps_strokeRead, .inr ownerKeeps_sectionSelect,
    .inr ownerKeeps_hold, .inr ownerKeeps_release, .inr ownerKeeps_resume, .inr ownerKeeps_auditArm,
    .inr ownerKeeps_featureMask, .inr ownerKeeps_restart, nofun⟩

/-! ### The other blocks -/

theorem settingsKept_takeSample (p : Port) (e : PreviewEntry) (s : State) : SettingsKept s (takeSample p e s) := by
  unfold takeSample
  split <;> exact ⟨⟨rfl, rfl, rfl⟩, rfl⟩

theorem settingsKept_senseFrame (a : Word16) (f : Byte) (s : State) : SettingsKept s (senseFrame a f s) := by
  have horig (pa : PositionAnswer) (x : State) : SettingsKept x (originate pa x) := by
    unfold originate
    split
    · exact ⟨⟨rfl, by simp, by simp⟩, rfl⟩
    · exact ⟨⟨rfl, rfl, rfl⟩, rfl⟩
  unfold senseFrame
  dsimp only
  split
  · split
    · exact (horig _ _).since ⟨⟨rfl, rfl, rfl⟩, rfl⟩
    · exact ⟨⟨rfl, rfl, rfl⟩, rfl⟩
  · exact ⟨⟨rfl, rfl, rfl⟩, rfl⟩

/-- The mode controller's part of an acknowledgement keeps the settings (R126). -/
theorem settingsKept_takeAck (kind : DriveKind) (angle : Int) (status : AckStatus) (s : State) :
    SettingsKept s (takeAck kind angle status s) := by
  have hcentring (x : State) : SettingsKept x (judgeCentring angle x) := by
    unfold judgeCentring
    split
    · exact settingsKept_changeMode ..
    · exact .refl x
  have hsettle (x : State) : SettingsKept x (judgeSettle angle x) := by
    unfold judgeSettle
    split_ifs
    · exact .refl x
    · exact ⟨⟨rfl, rfl, rfl⟩, rfl⟩
    · exact (settingsKept_answerHold ..).since ⟨⟨rfl, rfl, rfl⟩, rfl⟩
    · exact ⟨⟨rfl, rfl, rfl⟩, rfl⟩
  have hnote : SettingsKept s { s with mode := noteAck kind angle status s.mode } := ⟨⟨rfl, rfl, rfl⟩, rfl⟩
  unfold takeAck
  split_ifs
  · exact hnote.trans (settingsKept_takeFault ..)
  · exact hnote
  · exact (hnote.trans (hcentring _)).trans (hsettle _)

theorem settingsKept_receiveAck (q : Byte) (x : Word16) (st : Byte) (s : State) :
    SettingsKept s (receiveAck q x st s) := by
  unfold receiveAck
  split
  · exact (settingsKept_auditAnswer ..).since ((settingsKept_takeAck ..).since ⟨⟨rfl, rfl, rfl⟩, rfl⟩)
  · exact ⟨⟨rfl, rfl, rfl⟩, rfl⟩

theorem settingsKept_verifyCompletes (s : State) : SettingsKept s (verifyCompletes s) := by
  unfold verifyCompletes
  split
  · exact .refl s
  · exact (settingsKept_sendReport ..).since ⟨⟨rfl, rfl, rfl⟩, rfl⟩

/-- The exchange with the drive keeps the settings (R141, R142). -/
theorem settingsKept_driveExchange (sum : StepSummary) (s : State) : SettingsKept s (driveExchange sum s) := by
  have hmiss : SettingsKept s (judgeMiss s) := by
    unfold judgeMiss
    split
    · split
      · exact ⟨⟨rfl, rfl, rfl⟩, rfl⟩
      · exact (settingsKept_takeFault ..).since ⟨⟨rfl, rfl, rfl⟩, rfl⟩
    · exact .refl s
  exact (settingsKept_auditHandover ..).since ⟨⟨hmiss.params, hmiss.floorA, hmiss.floorB⟩, hmiss.pos⟩

/-- A step keeps the settings (R98). -/
theorem settingsKept_runStep (s : State) : SettingsKept s (runStep s) := by
  have hcommand (c : Option Int) (x : State) : SettingsKept x (takeCommand c x) := by
    rw [takeCommand_eq]; exact ⟨⟨rfl, rfl, rfl⟩, rfl⟩
  have hconclude (pa : PositionAnswer) (ra : RouteAnswer) (re : ReactiveAnswer) (x : State) :
      SettingsKept x (concludeStep pa ra re x) :=
    (settingsKept_driveExchange ..).since
      (.trans ((settingsKept_runStages ..).trans (hcommand _ _)) ⟨⟨rfl, rfl, rfl⟩, rfl⟩)
  exact (hconclude ..).since ⟨⟨rfl, rfl, rfl⟩, rfl⟩

end Sys2Proof.Machine

/-! SUPPORT. The law of the parameters (R2, R63, R77, R96, R120, R160), from what a PARAM SET does to one of them. -/

namespace Sys2Proof.Machine

open Sys2Proof.Safety

/-! ### The position unit's own actions -/

theorem paramsKept_watchdogExpires (s : State) : ParamsKept s (watchdogExpires s) :=
  (settingsKept_takeFault ..).toParamsKept.since ⟨rfl, rfl, rfl⟩

theorem paramsKept_watchdogExpiry (s : State) : ParamsKept s (watchdogExpiry s) := by
  unfold watchdogExpiry
  split
  · exact ⟨rfl, rfl, rfl⟩
  · exact (paramsKept_watchdogExpires _).since ⟨rfl, rfl, rfl⟩

theorem paramsKept_takeOdometry (p : Port) (hop : Byte) (x : Word24) (v : Word16) (d : Byte) (s : State) :
    ParamsKept s (takeOdometry p hop x v d s) := by
  unfold takeOdometry
  dsimp only
  split
  · exact (settingsKept_takeFault ..).toParamsKept.since ⟨rfl, rfl, rfl⟩
  · exact ⟨rfl, rfl, rfl⟩

theorem paramsKept_takeFix (p : Port) (b x : Word24) (a v : Byte) (s : State) : ParamsKept s (takeFix p b x a v s).1 := by
  unfold takeFix leadFix followFix
  (repeat' split) <;> exact ⟨rfl, rfl, rfl⟩

/-! ### One parameter set -/

theorem paramRange_nonempty (x : Param) : (paramRange x).1 ≤ (paramRange x).2 := by cases x <;> decide

/-- A parameter reads as it was set, when its range admits the value. -/
theorem getParam_setParam_same {x : Param} {v : Int} (h : (paramRange x).1 ≤ v) (s : State) :
    getParam x (setParam x v s) = v := by
  cases x
  case trimDm => rfl
  case sensorLeadDm => rfl
  all_goals exact Int.toNat_of_nonneg (le_trans (by decide) h)

/-- Every other parameter is as it was. -/
theorem getParam_setParam_other {x y : Param} (h : y ≠ x) (v : Int) (s : State) :
    getParam y (setParam x v s) = getParam y s := by
  cases x <;> cases y <;> first | rfl | exact absurd rfl h

theorem setParam_pos (x : Param) (v : Int) (s : State) : (setParam x v s).pos = s.pos := by cases x <;> rfl

/-- The setting of a parameter, then at most an expiry of the watchdog (R13): the parameters and the floors are those
of the setting. -/
theorem paramsKept_applyParam (x : Param) (v : Int) (s : State) : ParamsKept (setParam x v s) (applyParam x v s) := by
  rcases applyParam_cases x v s with h | ⟨-, -, -, h⟩ <;> rw [h]
  · exact ⟨rfl, rfl, rfl⟩
  · exact paramsKept_watchdogExpires _

/-! ### The law -/

theorem ParamsKept.getParam_eq {s t : State} (h : ParamsKept s t) (x : Param) : getParam x t = getParam x s := by
  obtain ⟨hp, ha, hb⟩ := h
  cases x <;> simp only [getParam, hp, ha, hb]

/-- The law speaks of the parameters and the floors only. -/
theorem paramLaw_congr {s t : State} (hs : ParamLaw s) (h : ParamsKept s t) : ParamLaw t := by
  refine ⟨fun x => ?_, ?_⟩
  · rw [h.getParam_eq]; exact hs.1 x
  · rw [h.params]; exact hs.2

theorem paramLaw_reset : ParamLaw State.reset := by
  refine ⟨fun x => ?_, by decide⟩
  cases x <;> decide

/-- The value a PARAM SET applies lies in the parameter's range: R2's clamp of the two timings moves a value toward
one that is in force, and the range of odo_lost_ms begins above that of odo_timeout and ends above it. -/
theorem appliedValue_mem {s : State} (hs : ParamLaw s) (x : Param) (v : Int) :
    (paramRange x).1 ≤ appliedValue x s.params v ∧ appliedValue x s.params v ≤ (paramRange x).2 := by
  have hlo := limitTo_lower (paramRange x).1 (paramRange x).2 v
  have hhi := limitTo_upper (paramRange_nonempty x) v
  cases x
  case odoTimeout =>
    have h : (200 : Int) ≤ s.params.odoLostMs := (hs.1 .odoLostMs).1
    simp only [appliedValue, timingClamp, paramRange] at *
    omega
  case odoLostMs =>
    have h : (s.params.odoTimeout : Int) ≤ 1000 := (hs.1 .odoTimeout).2
    simp only [appliedValue, timingClamp, paramRange] at *
    omega
  all_goals exact ⟨hlo, hhi⟩

/-- A parameter set to the value a PARAM SET applies keeps the law (R2). -/
theorem paramLaw_setParam {s : State} (hs : ParamLaw s) (x : Param) (v : Int) :
    ParamLaw (setParam x (appliedValue x s.params v) s) := by
  have hv := appliedValue_mem hs x v
  have hsame := getParam_setParam_same hv.1 s
  have hother (y : Param) (h : y ≠ x) := getParam_setParam_other h (appliedValue x s.params v) s
  have hrange (y : Param) : (paramRange y).1 ≤ getParam y (setParam x (appliedValue x s.params v) s)
      ∧ getParam y (setParam x (appliedValue x s.params v) s) ≤ (paramRange y).2 := by
    by_cases h : y = x
    · subst h; rw [hsame]; exact hv
    · rw [hother y h]; exact hs.1 y
  have htimes : getParam .odoTimeout s ≤ getParam .odoLostMs s := Int.ofNat_le.2 hs.2
  refine ⟨hrange, Int.ofNat_le.1 (?_ : getParam .odoTimeout _ ≤ getParam .odoLostMs _)⟩
  by_cases ht : x = .odoTimeout
  · subst ht
    rw [hsame, hother .odoLostMs nofun]
    exact min_le_right _ _
  by_cases hl : x = .odoLostMs
  · subst hl
    rw [hsame, hother .odoTimeout nofun]
    exact le_max_right _ _
  rwa [hother .odoTimeout (Ne.symm ht), hother .odoLostMs (Ne.symm hl)]

/-! ### Every action keeps the law -/

theorem lineBlind_paramLaw : LineBlind ParamLaw where
  line _ _ _ _ _ ha hb hs := paramLaw_congr hs ⟨rfl, ha, hb⟩
  held _ _ hs := paramLaw_congr hs ⟨rfl, rfl, rfl⟩
  free _ _ hs := paramLaw_congr hs ⟨rfl, rfl, rfl⟩

theorem timeBlind_paramLaw : TimeBlind ParamLaw where
  now _ _ hs := paramLaw_congr hs ⟨rfl, rfl, rfl⟩
  pending _ _ hs := paramLaw_congr hs ⟨rfl, rfl, rfl⟩

theorem paramLaw_takeParamSet (r : Request) {s : State} (hs : ParamLaw s) : ParamLaw (takeParamSet r s).1 := by
  unfold takeParamSet
  split
  · exact hs
  · split
    · exact hs
    · next x _ =>
      split
      · exact paramLaw_congr hs ⟨rfl, rfl, rfl⟩
      · exact paramLaw_congr (paramLaw_setParam hs x _) (paramsKept_applyParam ..)

theorem paramLaw_take {row : RequestRow} (h : row ∈ catalogue) (r : Request) {s : State} (hs : ParamLaw s) :
    ParamLaw (row.take r s).1 := by
  rcases ownerKeeps_catalogue row h with rfl | hkeep
  · exact paramLaw_takeParamSet r hs
  · exact paramLaw_congr hs (hkeep r s).toParamsKept

/-- A command keeps the law of the parameters: a PARAM SET by its clamps, device reset by the defaults, and every other
command by leaving the parameters alone. -/
theorem paramLaw_exec {c : Instr} {s t : State} (hs : ParamLaw s) (he : exec c s = .next t) : ParamLaw t :=
  lineBlind_paramLaw.exec (fun _ hm r _ h => paramLaw_take hm r h)
    (fun _ _ _ => paramLaw_congr paramLaw_reset ⟨rfl, rfl, rfl⟩)
    (fun _ _ _ _ _ _ h => paramLaw_congr h (paramsKept_takeOdometry ..))
    (fun _ h => paramLaw_congr h (paramsKept_watchdogExpiry _))
    (fun _ _ _ _ _ _ h => paramLaw_congr h (paramsKept_takeFix ..))
    (fun _ _ _ h => paramLaw_congr h (settingsKept_takeSample ..).toParamsKept)
    (fun _ _ _ h => paramLaw_congr h (settingsKept_senseFrame ..).toParamsKept)
    (fun _ _ _ _ h => paramLaw_congr h (settingsKept_receiveAck ..).toParamsKept)
    (fun _ h => paramLaw_congr h (settingsKept_runStep _).toParamsKept)
    (fun _ h => paramLaw_congr h (settingsKept_verifyCompletes _).toParamsKept) hs he

/-- Settles O14: every command keeps the law, so every step does. -/
theorem stepKeepsParamLaw : Obligations.StepKeepsParamLaw := fun _ _ hs he =>
  lineBlind_paramLaw.step timeBlind_paramLaw (fun _ _ _ => paramLaw_exec) hs he

/-! ### The laws at reset -/

theorem bankOf_reset (b : Fin 4) : bankOf State.reset.store b = {} := by fin_cases b <;> rfl

theorem verifierLaw_reset : VerifierLaw State.reset.store := fun b => by
  rw [bankOf_reset]
  exact ⟨nofun, nofun⟩

theorem lineLaw_reset : LineLaw State.reset :=
  ⟨⟨by decide, by decide, by decide, fun _ => ⟨rfl, rfl⟩⟩, ⟨by decide, by decide, by decide, fun _ => ⟨rfl, rfl⟩⟩⟩

theorem queueLaw_reset : QueueLaw State.reset := ⟨by decide, .nil, nofun, by decide, fun _ => ⟨rfl, rfl⟩⟩

/-- Mode CENTRING with target OFF, which any state admits (R119, R124). -/
theorem modeLaw_reset : ModeLaw State.reset := by
  have hoff : Admits State.reset .off := ⟨fun h => absurd rfl h, nofun⟩
  exact ⟨nofun, nofun, fun _ => hoff, nofun, hoff, nofun⟩

/-- The default stroke table meets the conditions of R147. -/
theorem commandLaw_reset : CommandLaw State.reset :=
  ⟨⟨by decide, by decide, by decide, by decide⟩, by decide, nofun⟩

/-- Settles O6, law by law. -/
theorem resetLawful : Obligations.ResetLawful :=
  ⟨⟨reset_memory_wf, nofun⟩, lineLaw_reset, fun h => absurd rfl h, verifierLaw_reset, nofun, queueLaw_reset,
    modeLaw_reset, commandLaw_reset, paramLaw_reset, nofun, nofun⟩

end Sys2Proof.Machine

/-! SUPPORT. The position unit (01): the frames it takes, the watchdog's expiry, and the position query. -/

namespace Sys2Proof.Machine

open Sys2Proof.Safety

/-! ### Frames forwarded -/

/-- The raised hop count holds at 255 (R154). -/
theorem raiseHop_eq (h : Header) : raiseHop h = { h with hop := BitVec.ofNat 8 (min 255 (h.hop.toNat + 1)) } := by
  unfold raiseHop
  congr 1
  split
  · next hop => rw [hop]; rfl
  · next hop =>
    have hne : h.hop.toNat ≠ 255 := fun e => hop (BitVec.eq_of_toNat_eq e)
    rw [Nat.min_eq_right (by omega), BitVec.ofNat_add, BitVec.ofNat_toNat, BitVec.setWidth_eq]

/-- A forwarded frame joins the forwarding queue of the other port, its hop count raised (R154, R155). -/
theorem forward_eq (port : Port) (h : Header) (b : Body) (s : State) :
    forward port h b s = onPort (otherPort port)
      (joinForward { h := { h with hop := BitVec.ofNat 8 (min 255 (h.hop.toNat + 1)) }, body := b }) s := by
  rw [forward, raiseHop_eq]

/-! ### The position query -/

theorem roundDiv_nonneg (n d : Nat) : 0 ≤ roundDiv n d := by
  unfold roundDiv
  rw [if_neg (by omega)]
  exact Int.natCast_nonneg _

theorem previewDistance_cast (s : State) :
    (previewDistance s : Int) = roundDiv ((s.pos.v * s.params.lagMs : Nat) : Int) 10000 :=
  Int.toNat_of_nonneg (roundDiv_nonneg _ _)

theorem offsetInUse_cast (s : State) :
    (offsetInUse s : Int) = if s.line.upstream = some .b then (s.params.offsetB : Int) else s.params.offsetA := by
  unfold offsetInUse
  split
  · next h => rw [if_pos h]
  · next h => rw [if_neg h]

theorem orientation_eq (l : LineInterface) : orientation l = if l.upstream = some .b then -1 else 1 := by
  unfold orientation
  split
  · next h => rw [if_pos h]
  · next h => rw [if_neg h]

theorem rangeFlag_iff (sum : Int) : rangeFlag sum = true ↔ sum < 0 ∨ 16777215 < sum := by
  simp only [rangeFlag, Bool.or_eq_true, decide_eq_true_eq]; rfl

theorem staleFlag_iff (s : State) (e : Nat) : staleFlag s e = true ↔ s.pos.seen = false ∨ s.params.odoTimeout ≤ e := by
  simp [staleFlag]

/-- Settles O53. The answer's points are those of R9 and R10 by definition, once the offset in use and the preview
distance are read as R1 and R10 give them. -/
theorem positionAnswered : Obligations.PositionAnswered := by
  intro s sat e d offset sum preview pa
  have hsum : carSum s = sum := by rw [carSum, offsetInUse_cast]; rfl
  have hpreview : (previewDistance s : Int) = preview := previewDistance_cast s
  refine ⟨congrArg sat hsum, rfl, rfl, hpreview, congrArg (fun x => sat (pa.car + d * x)) hpreview, rfl, rfl,
    orientation_eq s.line, ?_, staleFlag_iff s e, decide_eq_true_iff, ?_⟩
  · rw [← hsum]
    exact rangeFlag_iff (carSum s)
  · show (!pa.stale && !pa.uExceeds && !pa.range) = true ↔ _
    simp [and_assoc]

/-! ### ODOMETRY -/

theorem arrivalKind_same (port : Port) : arrivalKind (some port) port = .ordinary := by simp [arrivalKind]

theorem arrivalKind_other (port : Port) : arrivalKind (some (otherPort port)) port = .turnaround := by cases port <;> rfl

/-- Settles O47, by the kind of the arrival (R3). -/
theorem odometryActs : Obligations.OdometryActs := by
  intro port h chainage speed direction rest s v dir t grown flushed taken passed run hh
  have hrun : run = .next (forward port h (.odometry chainage speed direction rest)
      (takeOdometry port h.hop chainage speed direction t)) := unlessHeld_awake hh _
  have hpassed (x : State) : .next (forward port h (.odometry chainage speed direction rest) x) = passed x := by
    rw [forward_eq]
  have htaken (kind : ArrivalKind) (hk : arrivalKind s.line.upstream port = kind) :
      run = passed
        (let x := taken (grownDistance kind s.pos chainage.toNat)
            (if asksFlush kind s.pos.dir dir then flushed else s.queue)
          if kind = .turnaround ∧ 0 < v then takeFault .lineTurn x else x) := by
    rw [hrun, hpassed, ← hk, ← countReceived_line_upstream port s]
    rfl
  refine ⟨fun hu => ?_, fun hu hd => ?_, fun hu hd => ?_, fun hu hv => ?_, fun hu hv => ?_⟩
  · exact htaken .first (by rw [hu]; rfl)
  · have hkeep : asksFlush .ordinary s.pos.dir dir = false := by simp [asksFlush, hd]
    rw [htaken .ordinary (by rw [hu, arrivalKind_same]), hkeep]
    rfl
  · have hflush : asksFlush .ordinary s.pos.dir dir = true := by simp [asksFlush, Ne.symm hd]
    rw [htaken .ordinary (by rw [hu, arrivalKind_same]), hflush]
    rfl
  · rw [htaken .turnaround (by rw [hu, arrivalKind_other])]
    simp only [hv, lt_irrefl, and_false, if_false]
    rfl
  · rw [htaken .turnaround (by rw [hu, arrivalKind_other])]
    simp only [hv, and_self, if_true]
    rfl

/-! ### The watchdog's expiry and the taking of a fault -/

theorem watchdogExpiry_running {s : State} {a : Nat} (hw : s.pos.watchdog = .running) (ha : s.clock.arrival = some a) :
    watchdogExpiry s = takeFault .odoLost
      { s with
        clock := { s.clock with now := max s.clock.now (a + s.params.odoLostMs * 2000) }
        pos := { s.pos with watchdog := .idle } } := by
  simp only [watchdogExpiry, hw, watchdogExpires, clockTo, watchdogDue, ha]
  rfl

/-- The saved mode of an entry to FAULT is the mode left, or the one it stands for (R131). -/
theorem savedFrom_of {m : ModeController} {saved : ChosenMode}
    (h : m.mode = chosenToMode saved ∨ m.mode = .hold ∧ m.holdReturn = some saved
      ∨ m.mode = .centring ∧ m.target = saved) : m.mode ≠ .fault ∧ savedFrom m = saved := by
  rcases h with h | ⟨h, hr⟩ | ⟨h, ht⟩
  · cases saved <;> simp [savedFrom, h, chosenToMode]
  · simp [savedFrom, h, hr]
  · simp [savedFrom, h, ht]

/-- Settles O48. -/
theorem faultsTaken : Obligations.FaultsTaken := by
  intro cause s
  refine ⟨fun a hh hw ha => ?_, fun hf => ?_, fun saved hs => ?_⟩
  · rw [← watchdogExpiry_running hw ha]
    exact unlessHeld_awake hh _
  · rw [takeFault, if_pos hf]
    rfl
  · obtain ⟨hf, hsaved⟩ := savedFrom_of hs
    intro m t t1 t2
    have hm : m = faultedMode cause s.mode := by rw [faultedMode, hsaved]; rfl
    have ht1 : answerHold .faulted t = t1 := by
      cases hr : s.holdReply <;> simp only [answerHold, t1, t, hr]
    have ha : t1.audit = s.audit := by
      rw [← ht1, answerHold_eq]
    have ht2 : completeAudit .fault t1 = t2 := by
      cases hp : s.audit.pending <;> cases hr : s.audit.record <;> simp only [completeAudit, t2, ha, hp, hr]
    rw [takeFault, if_neg hf, enterFault, ← hm]
    show sendReport _ (sendReport _ (completeAudit .fault (answerHold .faulted t))) = _
    rw [ht1, ht2]
    rfl

/-! ### FIX -/

theorem actsOnFix_iff (s : State) (port : Port) :
    actsOnFix s port = true ↔ s.line.upstream = none ∨ s.line.upstream = some port := by simp [actsOnFix]

theorem actsOnFix_other {s : State} {port : Port} (h : s.line.upstream = some (otherPort port)) :
    actsOnFix s port = false := by
  rw [← Bool.not_eq_true, actsOnFix_iff, h]
  cases port <;> decide

theorem acceptsFix_iff (x : PositionUnit) (c : Int) (accuracy : Nat) :
    acceptsFix x c accuracy = true ↔ (c - x.fixOffset).natAbs ≤ x.u + accuracy + 10 ∨ 2 ≤ x.rejections := by
  simp [acceptsFix]

section
variable {port : Port} {beacon passage : Word24} {accuracy verdict : Byte} {s : State}

/-- A FIX from the downstream port is ignored (R15). -/
theorem takeFix_ignored (h : actsOnFix s port = false) :
    takeFix port beacon passage accuracy verdict s =
      ({ s with pos := { s.pos with reverseIgnored := count16 s.pos.reverseIgnored } }, verdict) := by
  rw [takeFix, h]; rfl

/-- A lead accepts a fix: it is applied, and the rejections start again (R16, R17). -/
theorem takeFix_accepted (h : actsOnFix s port = true) (hl : s.pos.lead = true)
    (ha : acceptsFix s.pos (correction beacon passage) (fixAccuracy accuracy) = true) :
    takeFix port beacon passage accuracy verdict s =
      ({ applyFix (correction beacon passage) (fixAccuracy accuracy) s with
          pos := { fixedPosition (correction beacon passage) (fixAccuracy accuracy) s.pos with rejections := 0 } },
        1#8) := by
  rw [takeFix, if_pos h, if_pos hl, leadFix, if_pos ha]; rfl

/-- A lead rejects a fix (R16). -/
theorem takeFix_rejected (h : actsOnFix s port = true) (hl : s.pos.lead = true)
    (ha : acceptsFix s.pos (correction beacon passage) (fixAccuracy accuracy) = false) :
    takeFix port beacon passage accuracy verdict s =
      ({ s with pos := { s.pos with rejections := s.pos.rejections + 1 } }, 2#8) := by
  rw [takeFix, if_pos h, if_pos hl, leadFix, ha]; rfl

/-- A follower follows the verdict carried (R18). -/
theorem takeFix_followed (h : actsOnFix s port = true) (hl : s.pos.lead = false) :
    takeFix port beacon passage accuracy verdict s =
      (followFix (correction beacon passage) (fixAccuracy accuracy) (verdictOf verdict) s, verdict) := by
  rw [takeFix, if_pos h, hl]; rfl

end

theorem verdictOf_unmarked {code : Byte} (h1 : code ≠ 1#8) (h2 : code ≠ 2#8) : verdictOf code = .unmarked := by
  rw [verdictOf, if_neg h1, if_neg h2]

/-- Settles O49, by who decides the fix and how. -/
theorem fixActs : Obligations.FixActs := by
  intro port h beacon passage accuracy verdict rest s c acc t applied passed run hh
  have hrun : run = passed (takeFix port beacon passage accuracy verdict t).2
      (takeFix port beacon passage accuracy verdict t).1 := by
    simp only [passed, ← forward_eq]
    exact unlessHeld_awake hh _
  have hup : t.line.upstream = s.line.upstream := onPort_line_upstream ..
  refine ⟨fun hu => ?_, fun hu => ?_⟩
  · rw [hrun, takeFix_ignored (actsOnFix_other (hup.trans hu))]
    rfl
  · have hacts : actsOnFix t port = true := (actsOnFix_iff t port).2 (hup ▸ hu)
    refine ⟨fun hl ha => ?_, fun hl hb hr => ?_, fun hl hv => ?_, fun hl hv => ?_, fun hl hv1 hv2 => ?_⟩
    · have haccept : acceptsFix t.pos c acc = true := (acceptsFix_iff ..).2 (ha.imp_right (·.ge))
      rw [hrun, takeFix_accepted hacts hl haccept]
      rfl
    · have hreject : acceptsFix t.pos c acc = false := by
        rw [← Bool.not_eq_true, acceptsFix_iff]
        exact not_or.2 ⟨not_le.2 hb, not_le.2 hr⟩
      rw [hrun, takeFix_rejected hacts hl hreject]
      rfl
    · rw [hrun, takeFix_followed hacts hl, hv]
      rfl
    · rw [hrun, takeFix_followed hacts hl, hv]
      rfl
    · rw [hrun, takeFix_followed hacts hl, verdictOf_unmarked hv1 hv2]
      rfl

end Sys2Proof.Machine

/-! SUPPORT. The uncertainty falls by an applied fix alone (R14, R17, R19). -/

namespace Sys2Proof.Machine

/-- After a FIX frame the uncertainty is as it was, or the fix is applied (R15 to R18). -/
theorem takeFix_pos (port : Port) (beacon passage : Word24) (accuracy verdict : Byte) (s : State) :
    (takeFix port beacon passage accuracy verdict s).1.pos.u = s.pos.u
      ∨ ∃ rejections, (takeFix port beacon passage accuracy verdict s).1.pos =
          { fixedPosition (correction beacon passage) (fixAccuracy accuracy) s.pos with rejections := rejections } := by
  cases hacts : actsOnFix s port
  · rw [takeFix_ignored hacts]; exact .inl rfl
  cases hl : s.pos.lead
  · rw [takeFix_followed hacts hl]
    cases verdictOf verdict
    case accepted => exact .inr ⟨s.pos.rejections, rfl⟩
    case rejected => exact .inl rfl
    case unmarked => exact .inl rfl
  · cases ha : acceptsFix s.pos (correction beacon passage) (fixAccuracy accuracy)
    · rw [takeFix_rejected hacts hl ha]; exact .inl rfl
    · rw [takeFix_accepted hacts hl ha]; exact .inr ⟨0, rfl⟩

/-- The uncertainty is at least k. -/
def UncertaintyAtLeast (k : Nat) (s : State) : Prop := k ≤ s.pos.u

theorem lineBlind_uncertaintyAtLeast (k : Nat) : LineBlind (UncertaintyAtLeast k) :=
  ⟨fun _ _ _ _ _ _ _ h => h, fun _ _ h => h, fun _ _ h => h⟩

theorem UncertaintyAtLeast.of_settingsKept {k : Nat} {s t : State} (h : SettingsKept s t) (hs : UncertaintyAtLeast k s) :
    UncertaintyAtLeast k t := by
  rw [UncertaintyAtLeast, h.pos]; exact hs

theorem watchdogExpiry_u (s : State) : (watchdogExpiry s).pos.u = s.pos.u := by
  unfold watchdogExpiry
  split
  · rfl
  · rw [watchdogExpires_pos]; rfl

theorem le_takeOdometry_u (p : Port) (hop : Byte) (x : Word24) (v : Word16) (d : Byte) (s : State) :
    s.pos.u ≤ (takeOdometry p hop x v d s).pos.u := by
  unfold takeOdometry
  dsimp only
  split
  · rw [takeFault_eq]; exact le_max_left _ _
  · exact le_max_left _ _

theorem applyParam_u (x : Param) (v : Int) (s : State) : (applyParam x v s).pos.u = s.pos.u := by
  rcases applyParam_cases x v s with h | ⟨-, -, -, h⟩
  · rw [h, setParam_pos]
  · rw [h, watchdogExpires_pos, setParam_pos]

theorem takeParamSet_u (r : Request) (s : State) : (takeParamSet r s).1.pos.u = s.pos.u := by
  unfold takeParamSet
  split
  · rfl
  · split
    · rfl
    · split
      · rfl
      · exact applyParam_u ..

/-- Of the commands only FIX and DEVICE_RESET can lower the uncertainty: a refresh raises it (R14), and the others leave
the position unit alone but for its watchdog. -/
theorem le_exec_u {c : Instr} {s t : State} (hreset : ∀ e, c ≠ .deviceReset e)
    (hfix : ¬ ∃ p h b x a v rest, c = .fix p h b x a v rest) (he : exec c s = .next t) : s.pos.u ≤ t.pos.u := by
  have hrow : ∀ row ∈ catalogue, ∀ r x, UncertaintyAtLeast s.pos.u x → UncertaintyAtLeast s.pos.u (row.take r x).1 := by
    intro row hm r x hx
    rcases ownerKeeps_catalogue row hm with rfl | hkeep
    · exact hx.trans (takeParamSet_u r x).ge
    · exact hx.of_settingsKept (hkeep r x)
  exact (lineBlind_uncertaintyAtLeast s.pos.u).exec_of hrow
    (fun e hc => absurd hc (hreset e))
    (fun _ _ _ _ _ _ _ _ hx => hx.trans (le_takeOdometry_u ..))
    (fun _ x hx => hx.trans (watchdogExpiry_u x).ge)
    (fun _ _ _ _ _ _ _ hc => absurd ⟨_, _, _, _, _, _, _, hc⟩ hfix)
    (fun _ _ _ _ _ _ _ _ _ _ hx => hx.of_settingsKept (settingsKept_takeSample ..))
    (fun _ _ _ _ hx => hx.of_settingsKept (settingsKept_senseFrame ..))
    (fun _ _ _ _ _ hx => hx.of_settingsKept (settingsKept_receiveAck ..))
    (fun _ _ hx => hx.of_settingsKept (settingsKept_runStep _))
    (fun _ _ hx => hx.of_settingsKept (settingsKept_verifyCompletes _))
    (show UncertaintyAtLeast s.pos.u s from Nat.le_refl _) he

/-- A FIX frame leaves the position unit alone while device reset holds the part, and otherwise does to it what the
position unit does (R15, R176). -/
theorem exec_fix_pos {port : Port} {h : Header} {beacon passage : Word24} {accuracy verdict : Byte} {rest : List Byte}
    {s t : State} (he : exec (.fix port h beacon passage accuracy verdict rest) s = .next t) :
    t.pos = s.pos ∨ t.pos = (takeFix port beacon passage accuracy verdict (countReceived port s)).1.pos := by
  cases hh : s.held
  · cases (unlessHeld_awake hh _).symm.trans he; exact .inr rfl
  · cases (unlessHeld_held hh _).symm.trans he; exact .inl rfl

/-- Settles O19: a command that lowers the uncertainty is a FIX, and it applies the fix. -/
theorem uncertaintyFallsByFix : Obligations.UncertaintyFallsByFix := by
  intro c s t he hreset hlt
  by_cases hc : ∃ p h b x a v rest, c = .fix p h b x a v rest
  · obtain ⟨port, h, beacon, passage, accuracy, verdict, rest, rfl⟩ := hc
    rcases exec_fix_pos he with ht | ht
    · exact absurd (ht ▸ hlt) (lt_irrefl _)
    rcases takeFix_pos port beacon passage accuracy verdict (countReceived port s) with hu | ⟨rejections, hpos⟩
    · exact absurd (hu ▸ ht ▸ hlt) (lt_irrefl _)
    · rw [ht, hpos]
      exact ⟨rfl, rfl, min_le_left _ _, rfl, port, h, beacon, passage, accuracy, verdict, rest, rfl, rfl⟩
  · exact absurd hlt (not_lt.2 (le_exec_u hreset hc he))

end Sys2Proof.Machine

/-! SUPPORT. What a step can do to the section walker and the curve store (02, 03), said once: a chain of the acts that
follow. -/

namespace Sys2Proof.Machine

open Sys2Proof.Safety

/-! ### The acts -/

/-- The walker and the curve store of a state. -/
abbrev route (s : State) : Walker × CurveStore := (s.walker, s.store)

/-- One act on the walker and the curve store, with the checks that let it happen. -/
inductive RouteAct : Walker × CurveStore → Walker × CurveStore → Prop where
  /-- Device reset (R176). -/
  | reset (w : Walker) (c : CurveStore) : RouteAct (w, c) ({}, {})
  /-- DESC WRITE (R24, R26). -/
  | writeDesc (w : Walker) (c : CurveStore) (sel : Nat) (d : Descriptor) (hlow : sel ≠ 0) (hhigh : sel ≤ 63)
      (hidle : sel ≠ w.active) : RouteAct (w, c) ({ w with descs := slotSet w.descs sel d }, c)
  /-- DESC CLEAR (R27). -/
  | clearDesc (w : Walker) (c : CurveStore) (sel : Nat) (hidle : sel ≠ w.active) :
      RouteAct (w, c) ({ w with descs := slotErase w.descs sel }, c)
  /-- SECTION SELECT of 0 (R29). -/
  | selectNull (w : Walker) (c : CurveStore) : RouteAct (w, c) (selectNull w, c)
  /-- SECTION SELECT of a section (R29). -/
  | selectSection (w : Walker) (c : CurveStore) (sel : Nat) (hsel : selectRefusal w c sel = none) :
      RouteAct (w, c) (selectSection sel w, c)
  /-- A geometry query with a section active (R31). -/
  | query (w : Walker) (c : CurveStore) (dir : Int) (p : Nat) (hactive : w.active ≠ 0) :
      RouteAct (w, c) (walkQuery c dir p w, c)
  /-- A staged burst is dropped (R44, R49, R61). -/
  | unstage (w : Walker) (c : CurveStore) (n : Nat) : RouteAct (w, c) (w, { c with staged := none, interruptions := n })
  /-- The head of a length-8 burst is staged (R44, R46). -/
  | stage (w : Walker) (c : CurveStore) (x : StagedBurst) (hgroup : x.group ≤ 63)
      (hclosed : (bankOf c x.bank).state = .closed) : RouteAct (w, c) (w, { c with staged := some x })
  /-- A length-4 burst is written (R44, R45). -/
  | writeHead (w : Walker) (c : CurveStore) (b : Fin 4) (group start : Nat) (ps : List (Option CarriedRecord))
      (hgroup : group ≤ 63) (hstart : start ≤ 7) (hclosed : (bankOf c b).state = .closed) :
      RouteAct (w, c) (w, writeBurst b (slotOfShort group start) ps c)
  /-- A length-8 burst is written (R47). -/
  | writeTail (w : Walker) (c : CurveStore) (x : StagedBurst) (ps : List (Option CarriedRecord))
      (hstaged : c.staged = some x) :
      RouteAct (w, c) (w, { writeBurst x.bank (slotOfLong x.group x.start) ps c with staged := none })
  /-- A verification starts (R50, R51). -/
  | startVerify (w : Walker) (c : CurveStore) (b : Fin 4) (n now : Nat) (hopen : openRefusal b n c = none) :
      RouteAct (w, c) (w, startVerification b n now c)
  /-- A verification completes (R53, R54). -/
  | complete (w : Walker) (c : CurveStore) (x : Verification) (hbusy : c.verifier = some x) :
      RouteAct (w, c) (w, (completed x c).1)
  /-- A bank that no active section uses, or that FAILED, is closed (R57). -/
  | close (w : Walker) (c : CurveStore) (b : Fin 4)
      (hfree : (bankOf c b).state = .opened ∧ bankInUse w b = false ∨ (bankOf c b).state = .failed) :
      RouteAct (w, c) (w, closeBank b c)
  /-- An OPENING bank's verification is abandoned (R57). -/
  | abandon (w : Walker) (c : CurveStore) (b : Fin 4) (hopening : (bankOf c b).state = .opening) :
      RouteAct (w, c) (w, abandonVerification b c)
  /-- A bank is erased (R58). -/
  | erase (w : Walker) (c : CurveStore) (b : Fin 4) (hclosed : (bankOf c b).state = .closed) :
      RouteAct (w, c) (w, eraseBank b c)

/-- Acts one after another. -/
abbrev RouteActs : Walker × CurveStore → Walker × CurveStore → Prop := Relation.ReflTransGen RouteAct

/-- What every act keeps, a chain of acts keeps. -/
theorem RouteActs.keeps {Q : Walker × CurveStore → Prop} (hact : ∀ x y, RouteAct x y → Q x → Q y)
    {x y : Walker × CurveStore} (h : RouteActs x y) (hx : Q x) : Q y := by
  induction h with
  | refl => exact hx
  | tail _ hlast ih => exact hact _ _ hlast ih

/-- A state that has the walker and the store of s is reached by no act. -/
theorem RouteActs.of_eq {s t : State} (h : route t = route s) : RouteActs (route s) (route t) := by
  rw [h]

/-! ### Actions that leave the walker and the store alone -/

@[simp] theorem route_sendReport (r : Report) (s : State) : route (sendReport r s) = route s := by
  rw [sendReport_eq]

@[simp] theorem route_answerHold (o : SettleOutcome) (s : State) : route (answerHold o s) = route s := by
  rw [answerHold_eq]

@[simp] theorem route_changeMode (reason : ModeReason) (m : ModeController) (s : State) :
    route (changeMode reason m s) = route s := by
  rw [changeMode_eq]

@[simp] theorem route_takeFault (cause : FaultCause) (s : State) : route (takeFault cause s) = route s := by
  rw [takeFault_eq]

@[simp] theorem route_auditAnswer (seq : Byte) (stroke angle : Int) (status : AckStatus) (s : State) :
    route (auditAnswer seq stroke angle status s) = route s := by
  rw [auditAnswer_eq]

@[simp] theorem route_auditHandover (sum : StepSummary) (d : Drive) (s : State) :
    route (auditHandover sum d s) = route s := by
  rw [auditHandover_eq]

@[simp] theorem route_runStages (g : Stages) (pa : PositionAnswer) (ra : RouteAnswer) (s : State) :
    route (runStages g pa ra s) = route s := by
  rw [runStages_eq]

@[simp] theorem route_takeCommand (c : Option Int) (s : State) : route (takeCommand c s) = route s := by
  rw [takeCommand_eq]

@[simp] theorem route_judgeMiss (s : State) : route (judgeMiss s) = route s := by
  rw [judgeMiss_eq]

theorem route_watchdogExpires (s : State) : route (watchdogExpires s) = route s := by
  rw [watchdogExpires_eq]

theorem route_watchdogExpiry (s : State) : route (watchdogExpiry s) = route s := by
  unfold watchdogExpiry
  split
  · rfl
  · exact route_watchdogExpires _

theorem route_takeOdometry (p : Port) (hop : Byte) (x : Word24) (v : Word16) (d : Byte) (s : State) :
    route (takeOdometry p hop x v d s) = route s := by
  unfold takeOdometry
  dsimp only
  split
  · exact route_takeFault _ _
  · rfl

theorem route_takeFix (p : Port) (b x : Word24) (a v : Byte) (s : State) : route (takeFix p b x a v s).1 = route s := by
  unfold takeFix leadFix followFix
  (repeat' split) <;> rfl

theorem route_takeSample (p : Port) (e : PreviewEntry) (s : State) : route (takeSample p e s) = route s := by
  unfold takeSample
  split <;> rfl

theorem route_originate (pa : PositionAnswer) (s : State) : route (originate pa s) = route s := by
  unfold originate
  split <;> rfl

theorem route_senseFrame (a : Word16) (f : Byte) (s : State) : route (senseFrame a f s) = route s := by
  unfold senseFrame
  dsimp only
  split
  · split
    · exact route_originate _ _
    · rfl
  · rfl

theorem route_judgeCentring (angle : Int) (s : State) : route (judgeCentring angle s) = route s := by
  unfold judgeCentring
  split
  · exact route_changeMode ..
  · rfl

theorem route_judgeSettle (angle : Int) (s : State) : route (judgeSettle angle s) = route s := by
  unfold judgeSettle
  split_ifs
  · rfl
  · rfl
  · exact route_answerHold _ _
  · rfl

theorem route_takeAck (kind : DriveKind) (angle : Int) (status : AckStatus) (s : State) :
    route (takeAck kind angle status s) = route s := by
  unfold takeAck
  split_ifs
  · exact route_takeFault _ _
  · rfl
  · exact (route_judgeSettle _ _).trans (route_judgeCentring _ _)

theorem route_receiveAck (q : Byte) (x : Word16) (st : Byte) (s : State) : route (receiveAck q x st s) = route s := by
  unfold receiveAck
  split
  · exact (route_auditAnswer ..).trans (route_takeAck ..)
  · rfl

theorem route_driveExchange (sum : StepSummary) (s : State) : route (driveExchange sum s) = route s :=
  (route_auditHandover ..).trans (route_judgeMiss s)

theorem route_concludeStep (pa : PositionAnswer) (ra : RouteAnswer) (re : ReactiveAnswer) (s : State) :
    route (concludeStep pa ra re s) = route s :=
  (route_driveExchange ..).trans ((route_takeCommand ..).trans (route_runStages ..))

theorem route_applyParam (x : Param) (v : Int) (s : State) : route (applyParam x v s) = route s := by
  have hset : route (setParam x v s) = route s := by cases x <;> rfl
  rcases applyParam_cases x v s with h | ⟨-, -, -, h⟩ <;> rw [h]
  · exact hset
  · exact (route_watchdogExpires _).trans hset

/-! ### The owners of the requests -/

/-- An owner's action on its request is a chain of acts. -/
def OwnerActs (take : Request → State → State × Answer) : Prop :=
  ∀ r s, RouteActs (route s) (route (take r s).1)

/-- An owner's action on its request leaves the walker and the store alone. -/
def OwnerSpares (take : Request → State → State × Answer) : Prop := ∀ r s, route (take r s).1 = route s

theorem OwnerSpares.acts {take : Request → State → State × Answer} (h : OwnerSpares take) : OwnerActs take :=
  fun r s => .of_eq (h r s)

theorem ownerSpares_statusRead : OwnerSpares takeStatusRead := by
  intro r s
  unfold takeStatusRead
  (repeat' split) <;> rfl

theorem ownerSpares_paramSet : OwnerSpares takeParamSet := by
  intro r s
  unfold takeParamSet
  split
  · rfl
  · split
    · rfl
    · split
      · rfl
      · exact route_applyParam ..

theorem ownerSpares_paramRead : OwnerSpares takeParamRead := by
  intro r s
  unfold takeParamRead
  (repeat' split) <;> rfl

theorem ownerSpares_modeSet : OwnerSpares takeModeSet := by
  intro r s
  unfold takeModeSet
  (repeat' split) <;> simp

theorem ownerSpares_descRead : OwnerSpares takeDescRead := by
  intro r s
  unfold takeDescRead
  dsimp only
  (repeat' split) <;> rfl

theorem ownerSpares_recordRead : OwnerSpares takeRecordRead := by
  intro r s
  unfold takeRecordRead
  (repeat' split) <;> rfl

theorem ownerSpares_strokeLoad : OwnerSpares takeStrokeLoad := by
  intro r s
  unfold takeStrokeLoad
  dsimp only
  (repeat' split) <;> rfl

theorem ownerSpares_hold : OwnerSpares takeHold := by
  intro r s
  unfold takeHold
  split_ifs
  · rfl
  · rfl
  · exact route_changeMode ..

theorem ownerSpares_release : OwnerSpares takeRelease := by
  intro r s
  unfold takeRelease
  split
  · refine (route_answerHold ..).trans ?_
    split
    · exact route_changeMode ..
    · rfl
  · rfl

theorem ownerSpares_resume : OwnerSpares takeResume := by
  intro r s
  unfold takeResume
  (repeat' split) <;> simp

theorem ownerSpares_auditArm : OwnerSpares takeAuditArm := by
  intro r s
  unfold takeAuditArm
  (repeat' split) <;> rfl

theorem ownerActs_descWrite : OwnerActs takeDescWrite := by
  intro r s
  unfold takeDescWrite
  dsimp only
  split
  · exact .refl
  · split
    · exact .refl
    · next hsel =>
      obtain ⟨hlow, hhigh⟩ := not_or.1 hsel
      split
      · exact .refl
      · split
        · exact .refl
        · next hidle =>
          split
          · exact .refl
          · exact .single (.writeDesc _ _ _ _ hlow (Nat.le_of_not_lt hhigh) hidle)

theorem ownerActs_descClear : OwnerActs takeDescClear := by
  intro r s
  unfold takeDescClear
  dsimp only
  split_ifs with _ _ _ hidle
  · exact .refl
  · exact .refl
  · exact .refl
  · exact .refl
  · exact .refl
  · exact .single (.clearDesc _ _ _ hidle)

theorem ownerActs_sectionSelect : OwnerActs takeSectionSelect := by
  intro r s
  unfold takeSectionSelect
  dsimp only
  split_ifs
  · exact .refl
  · exact .single (.selectNull _ _)
  · exact .refl
  · split
    · exact .refl
    · next hsel => exact .single (.selectSection _ _ _ hsel)

/-! ### The owners of the curve store's requests -/

theorem routeActs_abandonStaged (w : Walker) (c : CurveStore) : RouteActs (w, c) (w, abandonStaged c) := by
  unfold abandonStaged
  split
  · exact .single (.unstage _ _ _)
  · exact .refl

@[simp] theorem bankOf_abandonStaged (c : CurveStore) (b : Fin 4) : bankOf (abandonStaged c) b = bankOf c b := by
  unfold abandonStaged
  split <;> rfl

theorem routeActs_openAfter (w : Walker) (asked : Bool) (b : Fin 4) (n now : Nat) (c : CurveStore) :
    RouteActs (w, c) (w, (openAfter asked b n now c).1) := by
  unfold openAfter
  split
  · split
    · next hopen => exact .single (.startVerify _ _ _ _ _ hopen)
    · exact .refl
    · exact .refl
  · exact .refl

theorem routeActs_actHead (w : Walker) {b : Fin 4} {args : List Byte} (now : Nat) {c : CurveStore}
    (hgroup : arg8 args 1 ≤ 63) (hclosed : (bankOf c b).state = .closed) :
    RouteActs (w, c) (w, (actHead b args now c).1) := by
  have hstart : ((argByte args 2).extractLsb' 0 3).toNat ≤ 7 := by
    have := ((argByte args 2).extractLsb' 0 3).isLt
    omega
  unfold actHead
  dsimp only
  split
  · exact .single (.stage _ _ _ hgroup hclosed)
  · exact .trans (.single (.writeHead w c b _ _ _ hgroup hstart hclosed)) (routeActs_openAfter ..)

theorem routeActs_headStore (w : Walker) (b : Fin 4) (args : List Byte) (now : Nat) (c : CurveStore) :
    RouteActs (w, c) (w, (headStore b args now c).1) := by
  unfold headStore
  split_ifs with hgroup hclosed
  · exact .refl
  · exact .refl
  · exact .refl
  · exact (routeActs_abandonStaged w c).trans
      (routeActs_actHead w now (Nat.le_of_not_lt hgroup) (by rw [bankOf_abandonStaged]; exact not_not.1 hclosed))

theorem ownerActs_loadHead : OwnerActs takeLoadHead := by
  intro r s
  unfold takeLoadHead
  split_ifs
  · exact .refl
  · exact .refl
  · split
    · exact .refl
    · exact routeActs_headStore ..

theorem ownerActs_loadTail : OwnerActs takeLoadTail := by
  intro r s
  unfold takeLoadTail
  split_ifs
  · exact .refl
  · exact .refl
  · split
    · exact .refl
    · next x hstaged =>
      split
      · exact .trans (.single (.writeTail _ _ x _ hstaged)) (routeActs_openAfter ..)
      · exact .refl

theorem ownerActs_bankOpen : OwnerActs takeBankOpen := by
  intro r s
  unfold takeBankOpen
  split
  · exact .refl
  · split
    · exact .refl
    · split
      · exact .refl
      · next hopen => exact .single (.startVerify _ _ _ _ _ hopen)

theorem ownerActs_bankClose : OwnerActs takeBankClose := by
  intro r s
  unfold takeBankClose
  split
  · exact .refl
  · split
    · exact .refl
    · split
      · exact .refl
      · next hstate =>
        split
        · exact .refl
        · next hfree => exact .single (.close _ _ _ (.inl ⟨hstate, Bool.eq_false_iff.2 hfree⟩))
      · next hstate => exact .single (.close _ _ _ (.inr hstate))
      · next hstate =>
        rw [route_sendReport]
        exact .single (.abandon _ _ _ hstate)

theorem ownerActs_bankErase : OwnerActs takeBankErase := by
  intro r s
  unfold takeBankErase
  split_ifs
  · exact .refl
  · exact .refl
  · split
    · exact .refl
    · split_ifs with hclosed
      · exact .refl
      · exact .refl
      · exact .single (.erase _ _ _ (not_not.1 hclosed))

/-- Of the masks only that of LOAD touches the store (R61, R166). -/
theorem routeActs_maskEffects (before after : Features) (s : State) :
    RouteActs (route s) (route (maskEffects before after s)) := by
  have hpred : route (if after.predictive && !before.predictive then maskPredictive s else s) = route s := by
    split
    · exact route_changeMode ..
    · rfl
  have haudit (x : State) : route (if after.audit && !before.audit then maskAudit x else x) = route x := by
    split <;> rfl
  have hload (x : State) : RouteActs (route x) (route (if after.load && !before.load then maskLoad x else x)) := by
    split
    · exact routeActs_abandonStaged ..
    · exact .refl
  have hboth := (haudit _).trans hpred
  exact (RouteActs.of_eq hboth).trans (hload _)

theorem ownerActs_featureMask : OwnerActs takeFeatureMask := by
  intro r s
  unfold takeFeatureMask
  split
  · exact .refl
  · dsimp only
    generalize joinFeatures s.line.masked (featuresOf (argByte r.args 0)) = after
    exact routeActs_maskEffects s.line.masked after { s with line := { s.line with masked := after } }

theorem ownerActs_restart : OwnerActs takeRestart := by
  intro r s
  have hmode (x : State) : route (restartMode x) = route x := (route_changeMode ..).trans (route_answerHold ..)
  have hroute : route (takeRestart r s).1 = (s.walker, { s.store with staged := none }) := hmode _
  rw [hroute]
  exact .single (.unstage _ _ s.store.interruptions)

theorem ownerActs_catalogue : ∀ row ∈ catalogue, OwnerActs row.take := by
  simp only [catalogue, List.forall_mem_cons]
  exact ⟨ownerSpares_statusRead.acts, ownerSpares_paramSet.acts, ownerSpares_paramRead.acts, ownerSpares_modeSet.acts,
    ownerActs_descWrite, ownerActs_descClear, ownerSpares_descRead.acts, ownerActs_loadHead, ownerActs_loadTail,
    ownerActs_bankOpen, ownerActs_bankClose, ownerActs_bankErase, ownerSpares_recordRead.acts,
    ownerSpares_strokeLoad.acts, fun _ _ => .refl, ownerActs_sectionSelect, ownerSpares_hold.acts,
    ownerSpares_release.acts, ownerSpares_resume.acts, ownerSpares_auditArm.acts, ownerActs_featureMask,
    ownerActs_restart, nofun⟩

/-! ### Commands and steps -/

theorem routeActs_geometryQuery (pa : PositionAnswer) (s : State) :
    RouteActs (route s) (route (geometryQuery pa s).1) := by
  by_cases hwalk : pa.usable && s.walker.active != 0
  · have hroute : route (geometryQuery pa s).1 = (walkQuery s.store pa.d pa.p s.walker, s.store) := by
      simp only [geometryQuery, hwalk, if_true]
    rw [hroute]
    simp only [Bool.and_eq_true, bne_iff_ne] at hwalk
    exact .single (.query _ _ _ _ hwalk.2)
  · have hroute : route (geometryQuery pa s).1 = route s := by
      simp only [geometryQuery, hwalk, Bool.false_eq_true, if_false]
    exact .of_eq hroute

/-- Of the parts of a step only the geometry query touches the walker and the store (R98). -/
theorem routeActs_runStep (s : State) : RouteActs (route s) (route (runStep s)) :=
  (routeActs_geometryQuery _ (beginStep s)).trans (RouteActs.of_eq (route_concludeStep _ _ _ (stepReactive _ _).1))

theorem routeActs_verifyCompletes (s : State) : RouteActs (route s) (route (verifyCompletes s)) := by
  unfold verifyCompletes
  split
  · exact .refl
  · next x hbusy =>
    rw [route_sendReport]
    exact .single (.complete _ _ x hbusy)

/-- Reached from a walker and a store by a chain of acts. -/
def RouteReached (x : Walker × CurveStore) (s : State) : Prop := RouteActs x (route s)

theorem RouteReached.then {x : Walker × CurveStore} {s t : State} (hs : RouteReached x s)
    (h : RouteActs (route s) (route t)) : RouteReached x t := .trans hs h

theorem lineBlind_routeReached (x : Walker × CurveStore) : LineBlind (RouteReached x) where
  line _ _ _ _ _ _ _ hs := hs
  held _ _ hs := hs
  free _ _ hs := hs

theorem timeBlind_routeReached (x : Walker × CurveStore) : TimeBlind (RouteReached x) where
  now _ _ hs := hs
  pending _ _ hs := hs

/-- A command is a chain of acts. -/
theorem routeReached_exec {x : Walker × CurveStore} {c : Instr} {s t : State} (hs : RouteReached x s)
    (he : exec c s = .next t) : RouteReached x t :=
  (lineBlind_routeReached x).exec (fun row hm r _ h => h.then (ownerActs_catalogue row hm r _))
    (fun _ s h => h.then (.single (.reset s.walker s.store)))
    (fun _ _ _ _ _ _ h => h.then (.of_eq (route_takeOdometry ..)))
    (fun _ h => h.then (.of_eq (route_watchdogExpiry _)))
    (fun _ _ _ _ _ _ h => h.then (.of_eq (route_takeFix ..)))
    (fun _ _ _ h => h.then (.of_eq (route_takeSample ..)))
    (fun _ _ _ h => h.then (.of_eq (route_senseFrame ..)))
    (fun _ _ _ _ h => h.then (.of_eq (route_receiveAck ..)))
    (fun _ h => h.then (routeActs_runStep _))
    (fun _ h => h.then (routeActs_verifyCompletes _)) hs he

/-- A step is a chain of acts. -/
theorem routeActs_step {s t : State} (he : step s = .next t) : RouteActs (route s) (route t) :=
  (lineBlind_routeReached (route s)).step (timeBlind_routeReached _) (fun _ _ _ => routeReached_exec)
    (show RouteReached (route s) s from .refl) he

end Sys2Proof.Machine

/-! SUPPORT. Sections and the walk (02): where a point lies, the entry checks, and where a walk ends. -/

namespace Sys2Proof.Machine

open Sys2Proof.Safety

/-! ### Where a point lies (R22) -/

theorem highEnd_eq (d : Descriptor) : highEnd d = highEdge d := by
  unfold highEnd highEdge extent
  cases d.granularity <;> rfl

/-- A section has at least one chainage. -/
theorem base_le_highEnd (d : Descriptor) : d.base ≤ highEnd d := by
  unfold highEnd
  split <;> omega

section
variable (d : Descriptor) (dir : Int) (p : Nat)

theorem placeOf_eq_inside_iff : placeOf d dir p = .inside ↔ Inside d p := by
  unfold placeOf
  rw [← highEnd_eq]
  split_ifs <;> simp <;> omega

theorem placeOf_eq_beyond_iff : placeOf d dir p = .beyond ↔ Beyond d dir p := by
  have := base_le_highEnd d
  unfold placeOf Beyond
  rw [← highEnd_eq]
  split_ifs <;> simp <;> omega

theorem placeOf_eq_behind_iff : placeOf d dir p = .behind ↔ Behind d dir p := by
  have := base_le_highEnd d
  unfold placeOf Behind
  rw [← highEnd_eq]
  split_ifs <;> simp <;> omega

end

/-! ### The entry checks (R35) -/

theorem entryCheck_eq_ok_iff (w : Walker) (c : CurveStore) (sel : Nat) (d : Descriptor) :
    entryCheck w c sel = .ok d ↔ Enters w c sel d := by
  refine ⟨entryCheck_ok, fun ⟨hd, hk⟩ => ?_⟩
  unfold entryCheck
  simp only [hd]
  cases hkind : d.kind with
  | invalid => rw [hkind] at hk; exact hk.elim
  | curveList b first count =>
    rw [hkind] at hk
    obtain ⟨hopen, hcount⟩ := hk
    simp only [hopen, ne_eq, not_true_eq_false, if_false, if_neg (Nat.not_lt.2 hcount)]
  | plain => rfl
  | noTilt => rfl
  | reduced limit => rfl

theorem entryCheck_eq_error_iff (w : Walker) (c : CurveStore) (sel : Nat) (cause : EntryCause) :
    entryCheck w c sel = .error cause ↔ EntryFails w c sel cause := by
  unfold entryCheck EntryFails
  cases slotGet w.descs sel with
  | none => simp [eq_comm]
  | some d =>
    dsimp only
    cases d.kind with
    | invalid => simp [eq_comm]
    | curveList b first count =>
      by_cases hopen : (bankOf c b).state = .opened
      · by_cases hcount : (bankOf c b).count < first + count <;> simp [hopen, hcount, eq_comm]
      · simp [hopen, eq_comm]
    | plain => simp
    | noTilt => simp
    | reduced limit => simp

/-! ### Where a walk ends (R32 to R36) -/

/-- The cursor plays no part in a walk forward. -/
theorem walkForward_cursor (w : Walker) (cur : Cursor) (c : CurveStore) (dir : Int) (p : Nat) (links sel : Nat)
    (d : Descriptor) :
    walkForward { w with cursor := cur } c dir p links sel d = walkForward w c dir p links sel d := by
  induction links generalizing sel d with
  | zero => rfl
  | succ links ih =>
    have hcheck : entryCheck { w with cursor := cur } c = entryCheck w c := rfl
    simp only [walkForward, ih, hcheck]

/-- A walk forward ends in a section that holds the point, if in any (R33, R35). -/
theorem walkForward_entered {w : Walker} {c : CurveStore} {dir : Int} {p : Nat} {links start sel : Nat} {d : Descriptor}
    (h : walkForward w c dir p links start d = .entered sel) :
    sel ≠ 0 ∧ ∃ x, Enters w c sel x ∧ Inside x p := by
  induction links generalizing start d with
  | zero => cases h
  | succ links ih =>
    rw [walkForward] at h
    split at h
    · cases h
    · next hlink =>
      split at h
      · cases h
      · next x hcheck =>
        split at h
        · next hplace =>
          cases h
          exact ⟨hlink, x, (entryCheck_eq_ok_iff ..).1 hcheck, (placeOf_eq_inside_iff ..).1 hplace⟩
        · exact ih h
        · cases h

/-- So does a walk backward (R34, R35). -/
theorem walkBackward_entered {w : Walker} {c : CurveStore} {dir : Int} {p : Nat} {start sel : Nat} {d : Descriptor}
    (h : walkBackward w c dir p start d = .entered sel) : sel ≠ 0 ∧ ∃ x, Enters w c sel x ∧ Inside x p := by
  unfold walkBackward at h
  split at h
  · cases h
  · next hlink =>
    split at h
    · cases h
    · next x hcheck =>
      split at h
      · next hplace =>
        cases h
        exact ⟨hlink, x, (entryCheck_eq_ok_iff ..).1 hcheck, (placeOf_eq_inside_iff ..).1 hplace⟩
      · cases h

/-- A walk stays where it is, enters a section that holds the point, or loses the section (R32, R36). -/
theorem walk_cases (c : CurveStore) (dir : Int) (p : Nat) (w : Walker) :
    (∃ d, slotGet w.descs w.active = some d ∧ Inside d p ∧ walk c dir p w = w)
      ∨ (∃ sel d, sel ≠ 0 ∧ Enters w c sel d ∧ Inside d p
        ∧ walk c dir p w = { w with active := sel, cursor := .unplaced })
      ∨ ∃ cause sel, walk c dir p w = loseSection cause sel w := by
  have hsettle (o : WalkOutcome) (hentered : ∀ sel, o = .entered sel → sel ≠ 0 ∧ ∃ x, Enters w c sel x ∧ Inside x p) :
      (∃ sel d, sel ≠ 0 ∧ Enters w c sel d ∧ Inside d p
        ∧ settleWalk o w = { w with active := sel, cursor := .unplaced })
      ∨ ∃ cause sel, settleWalk o w = loseSection cause sel w := by
    cases o with
    | entered sel =>
      obtain ⟨hsel, x, henters, hinside⟩ := hentered sel rfl
      exact .inl ⟨sel, x, hsel, henters, hinside, rfl⟩
    | lost cause sel => exact .inr ⟨cause, sel, rfl⟩
  unfold walk
  split
  · exact .inr (.inr ⟨_, _, rfl⟩)
  · next d hd =>
    split
    · next hplace => exact .inl ⟨d, hd, (placeOf_eq_inside_iff ..).1 hplace, rfl⟩
    · exact .inr (hsettle _ fun _ => walkForward_entered)
    · exact .inr (hsettle _ fun _ => walkBackward_entered)

/-! ### The cursor over a query (R30, R31) -/

/-- The cursor as the walk finds it: UNPLACED for a new direction or a backward point (R30). -/
def refreshedCursor (dir : Int) (p : Nat) (w : Walker) : Cursor := if cursorStale w dir p then .unplaced else w.cursor

theorem refreshCursor_eq (dir : Int) (p : Nat) (w : Walker) :
    refreshCursor dir p w = { w with cursor := refreshedCursor dir p w } := by
  unfold refreshCursor refreshedCursor
  split <;> rfl

/-- The cursor advanced in a section; without records it stays (R30, R64, R65). -/
def cursorIn (c : CurveStore) (d : Descriptor) (dir : Int) (p : Nat) (cur : Cursor) : Cursor :=
  match d.kind with
  | .curveList b first count => advanceCursor (bankOf c b).slots dir p first count cur
  | _ => cur

theorem settleCursor_eq {c : CurveStore} {w : Walker} {d : Descriptor} (hd : slotGet w.descs w.active = some d)
    (dir : Int) (p : Nat) : settleCursor c dir p w = { w with cursor := cursorIn c d dir p w.cursor } := by
  obtain ⟨kind, _, _, _, _, _, _⟩ := d
  unfold settleCursor cursorIn
  simp only [hd]
  cases kind <;> rfl

/-- The walker after a query that leaves a section active, its cursor advanced (R31). -/
def standing (c : CurveStore) (dir : Int) (p : Nat) (sel : Nat) (d : Descriptor) (cur : Cursor) (w : Walker) : Walker :=
  { w with active := sel, lastPoint := some p, lastDir := some (dirOf dir), cursor := cursorIn c d dir p cur }

theorem walkQuery_of_walk {c : CurveStore} {dir : Int} {p sel : Nat} {w : Walker} {d : Descriptor} {cur : Cursor}
    (hwalk : walk c dir p { w with cursor := refreshedCursor dir p w } = { w with active := sel, cursor := cur })
    (hsel : sel ≠ 0) (hd : slotGet w.descs sel = some d) : walkQuery c dir p w = standing c dir p sel d cur w := by
  unfold walkQuery
  rw [refreshCursor_eq, hwalk]
  simp only [hsel, if_false]
  rw [settleCursor_eq (d := d) hd]
  rfl

theorem walkQuery_of_lost {c : CurveStore} {dir : Int} {p : Nat} {w : Walker} {cause : NullCause} {sel : Nat}
    (hwalk : walk c dir p { w with cursor := refreshedCursor dir p w }
      = loseSection cause sel { w with cursor := refreshedCursor dir p w }) :
    walkQuery c dir p w = loseSection cause sel w := by
  unfold walkQuery
  rw [refreshCursor_eq, hwalk]
  rfl

/-- A query leaves a section active that holds the point and may be entered, or was active before; or it loses the
section (R31). -/
theorem walkQuery_cases (c : CurveStore) (dir : Int) (p : Nat) {w : Walker} (hactive : w.active ≠ 0) :
    (∃ sel d cur, sel ≠ 0 ∧ (Enters w c sel d ∨ sel = w.active ∧ slotGet w.descs sel = some d) ∧ Inside d p
        ∧ walkQuery c dir p w = standing c dir p sel d cur w)
      ∨ ∃ cause sel, walkQuery c dir p w = loseSection cause sel w := by
  rcases walk_cases c dir p { w with cursor := refreshedCursor dir p w } with
    ⟨d, hd, hinside, hwalk⟩ | ⟨sel, d, hsel, henters, hinside, hwalk⟩ | ⟨cause, sel, hwalk⟩
  · exact .inl ⟨w.active, d, _, hactive, .inr ⟨rfl, hd⟩, hinside, walkQuery_of_walk hwalk hactive hd⟩
  · exact .inl ⟨sel, d, _, hsel, .inl henters, hinside, walkQuery_of_walk hwalk hsel henters.1⟩
  · exact .inr ⟨cause, sel, walkQuery_of_lost hwalk⟩

/-- A query leaves the descriptors alone. -/
theorem walkQuery_descs (c : CurveStore) (dir : Int) (p : Nat) {w : Walker} (hactive : w.active ≠ 0) :
    (walkQuery c dir p w).descs = w.descs := by
  rcases walkQuery_cases c dir p hactive with ⟨_, _, _, _, _, _, h⟩ | ⟨_, _, h⟩ <;> rw [h] <;> rfl

end Sys2Proof.Machine

/-! SUPPORT. The law of the active section with the laws of the verifier and of the staged burst (R38, R41, R46), and
the canonical form of the stores (R20, R41): every act of RouteAct keeps them. -/

namespace Sys2Proof.Machine

open Sys2Proof.Safety

/-! ### Banks under the updates of the store -/

/-- The store c' has the banks of c, but x for bank b. -/
structure BankReplaced (b : Fin 4) (x : Bank) (c c' : CurveStore) : Prop where
  bank : ∀ b', bankOf c' b' = if b' = b then x else bankOf c b'

theorem bankReplaced_setBank (c : CurveStore) (b : Fin 4) (x : Bank) : BankReplaced b x c (setBank c b x) where
  bank b' := by
    split
    · next h => rw [h, bankOf_setBank_same]
    · next h => exact bankOf_setBank_other c x h

theorem bankReplaced_writeBurst (c : CurveStore) (b : Fin 4) (slotOf : Nat → Nat) (ps : List (Option CarriedRecord)) :
    BankReplaced b { bankOf c b with slots := writePositions slotOf 0 ps (bankOf c b).slots } c
      (writeBurst b slotOf ps c) := bankReplaced_setBank ..

theorem bankReplaced_startVerification (c : CurveStore) (b : Fin 4) (n now : Nat) :
    BankReplaced b { bankOf c b with state := .opening } c (startVerification b n now c) :=
  ⟨(bankReplaced_setBank ..).bank⟩

theorem bankReplaced_closeBank (c : CurveStore) (b : Fin 4) :
    BankReplaced b { bankOf c b with state := .closed } c (closeBank b c) := bankReplaced_setBank ..

theorem bankReplaced_abandonVerification (c : CurveStore) (b : Fin 4) :
    BankReplaced b { bankOf c b with state := .closed, last := .abandoned (expectedCount c) } c
      (abandonVerification b c) := ⟨(bankReplaced_setBank ..).bank⟩

theorem bankReplaced_eraseBank (c : CurveStore) (b : Fin 4) :
    BankReplaced b { bankOf c b with slots := [], count := 0, last := .none } c (eraseBank b c) :=
  bankReplaced_setBank ..

/-- What a completion leaves: the bank OPEN or FAILED, its slots as they were, and the verifier idle (R53, R54). -/
theorem completed_replaced (x : Verification) (c : CurveStore) :
    ∃ bk, BankReplaced x.bank bk c (completed x c).1 ∧ (completed x c).1.verifier = none
      ∧ (completed x c).1.staged = c.staged ∧ bk.slots = (bankOf c x.bank).slots
      ∧ (bk.state = .opened ∨ bk.state = .failed) := by
  unfold completed
  dsimp only
  split
  · exact ⟨{ bankOf c x.bank with state := .opened, count := x.expected, last := .pass x.expected },
      ⟨(bankReplaced_setBank ..).bank⟩, rfl, setBank_staged .., rfl, .inl rfl⟩
  · next i reason _ =>
    exact ⟨{ bankOf c x.bank with state := .failed, last := .fail x.expected i reason },
      ⟨(bankReplaced_setBank ..).bank⟩, rfl, setBank_staged .., rfl, .inr rfl⟩

/-! ### What the checks say -/

/-- A BANK OPEN that no check refuses: a CLOSED or FAILED bank, no verification under way, and no burst staged for the
bank (R50). -/
theorem openRefusal_eq_none {b : Fin 4} {n : Nat} {c : CurveStore} (h : openRefusal b n c = none) :
    ((bankOf c b).state = .closed ∨ (bankOf c b).state = .failed) ∧ (∀ b', (bankOf c b').state ≠ .opening)
      ∧ ∀ x, c.staged = some x → x.bank ≠ b := by
  unfold openRefusal at h
  split_ifs at h with _ hstate hopening hstaged
  refine ⟨by tauto, fun b' hb' => hopening ((someOpening_iff c).2 ⟨b', hb'⟩), fun x hx hb => hstaged ?_⟩
  simp [stagedFor, hx, hb]

/-- A section that SECTION SELECT does not refuse is usable (R29, R38). -/
theorem selectRefusal_eq_none_iff {w : Walker} {c : CurveStore} {sel : Nat} :
    selectRefusal w c sel = none ↔ ∃ d, Enters w c sel d := by
  unfold selectRefusal Enters
  cases slotGet w.descs sel with
  | none => simp
  | some d =>
    simp only [Option.some.injEq, exists_eq_left']
    cases d.kind with
    | invalid => simp [KindUsable]
    | curveList b first count =>
      simp only [KindUsable]
      split_ifs <;> simp_all
    | plain => simp [KindUsable]
    | noTilt => simp [KindUsable]
    | reduced limit => simp [KindUsable]

/-- A bank that is not in use is not that of the active section (R37). -/
theorem kind_ne_of_bankInUse {w : Walker} {b : Fin 4} {d : Descriptor} (hfree : bankInUse w b = false)
    (hactive : w.active ≠ 0) (hd : slotGet w.descs w.active = some d) (first count : Nat) :
    d.kind ≠ .curveList b first count := by
  intro hkind
  obtain ⟨kind, _, _, _, _, _, _⟩ := d
  cases hkind
  simp [bankInUse, hd, hactive] at hfree

/-! ### The law of the active section -/

/-- The law of R38 and the laws of the verifier and of the staged burst that keep it (R41, R46). -/
structure RouteLaw (x : Walker × CurveStore) : Prop where
  active : x.1.active ≠ 0 → ∃ d, Enters x.1 x.2 x.1.active d
  verifier : VerifierLaw x.2
  staged : StagedLaw x.2

/-- A kind stays usable when a bank it does not name is replaced. -/
theorem kindUsable_replace {c c' : CurveStore} {k : SectionKind} {b : Fin 4} {x : Bank} (h : KindUsable c k)
    (hc : BankReplaced b x c c') (hfree : ∀ first count, k ≠ .curveList b first count) : KindUsable c' k := by
  cases k with
  | curveList b' first count =>
    have hne : b' ≠ b := fun hb => hfree first count (by rw [hb])
    simpa only [KindUsable, hc.bank, if_neg hne] using h
  | _ => exact h

/-- A usable kind names an OPEN bank. -/
theorem ne_curveList_of_kindUsable {c : CurveStore} {k : SectionKind} {b : Fin 4} (h : KindUsable c k)
    (hstate : (bankOf c b).state ≠ .opened) (first count : Nat) : k ≠ .curveList b first count := by
  rintro rfl
  exact hstate h.1

/-- A bank may be replaced that is not OPEN, or not in use, when the laws of the verifier and of the staged burst hold
after it. -/
theorem RouteLaw.replace {w : Walker} {c c' : CurveStore} {b : Fin 4} {x : Bank} (h : RouteLaw (w, c))
    (hc : BankReplaced b x c c') (hfree : (bankOf c b).state ≠ .opened ∨ bankInUse w b = false)
    (hverifier : VerifierLaw c') (hstaged : StagedLaw c') : RouteLaw (w, c') where
  active hactive := by
    obtain ⟨d, hd, hk⟩ := h.active hactive
    refine ⟨d, hd, kindUsable_replace hk hc ?_⟩
    rcases hfree with hstate | huse
    · exact ne_curveList_of_kindUsable hk hstate
    · exact kind_ne_of_bankInUse huse hactive hd
  verifier := hverifier
  staged := hstaged

/-- The verifier's law while no bank begins or ends to be OPENING. -/
theorem verifierLaw_replace {c c' : CurveStore} {b : Fin 4} {x : Bank} (h : VerifierLaw c) (hc : BankReplaced b x c c')
    (hbefore : (bankOf c b).state ≠ .opening) (hafter : x.state ≠ .opening) (hv : c'.verifier = c.verifier) :
    VerifierLaw c' := by
  intro b'
  rw [hv, ← h b', hc.bank]
  split
  · next hb => rw [hb]; exact ⟨fun hx => absurd hx hafter, fun hx => absurd hx hbefore⟩
  · exact Iff.rfl

/-- The verifier's law when the verification of an OPENING bank ends. -/
theorem verifierLaw_finish {c c' : CurveStore} {b : Fin 4} {x : Bank} (h : VerifierLaw c) (hc : BankReplaced b x c c')
    (hbefore : (bankOf c b).state = .opening) (hafter : x.state ≠ .opening) (hv : c'.verifier = none) :
    VerifierLaw c' := by
  intro b'
  refine ⟨fun hstate => ?_, fun ⟨y, hy, _⟩ => by rw [hv] at hy; cases hy⟩
  rw [hc.bank] at hstate
  split at hstate
  · exact absurd hstate hafter
  · next hne =>
    obtain ⟨y, hy, hyb⟩ := (h b).1 hbefore
    obtain ⟨z, hz, hzb⟩ := (h b').1 hstate
    rw [hy] at hz
    cases hz
    exact absurd (hzb.symm.trans hyb) hne

/-- The verifier's law when a verification begins while no bank is OPENING. -/
theorem verifierLaw_start {c c' : CurveStore} {b : Fin 4} {x : Bank} {v : Verification} (hc : BankReplaced b x c c')
    (hbefore : ∀ b', (bankOf c b').state ≠ .opening) (hafter : x.state = .opening) (hv : c'.verifier = some v)
    (hb : v.bank = b) : VerifierLaw c' := by
  intro b'
  rw [hc.bank, hv]
  split
  · next h => exact ⟨fun _ => ⟨v, rfl, hb.trans h.symm⟩, fun _ => hafter⟩
  · next h =>
    refine ⟨fun hstate => absurd hstate (hbefore b'), ?_⟩
    rintro ⟨y, hy, rfl⟩
    cases hy
    exact absurd hb h

/-- The staged burst's law when a bank is replaced by a CLOSED one, or one the burst does not name. -/
theorem stagedLaw_replace {c c' : CurveStore} {b : Fin 4} {x : Bank} (h : StagedLaw c) (hc : BankReplaced b x c c')
    (hstaged : c'.staged = c.staged) (hbank : x.state = .closed ∨ ∀ y, c.staged = some y → y.bank ≠ b) :
    StagedLaw c' := by
  intro y hy
  rw [hstaged] at hy
  rw [hc.bank]
  split
  · next hb => exact hbank.resolve_right fun hne => hne y hy hb
  · exact h y hy

/-- The laws of a walker and a store of the same active section. -/
theorem RouteLaw.withWalker {w w' : Walker} {c : CurveStore} (h : RouteLaw (w, c))
    (hactive : w'.active ≠ 0 → ∃ d, Enters w' c w'.active d) : RouteLaw (w', c) := ⟨hactive, h.verifier, h.staged⟩

/-- A burst written into a CLOSED bank, whatever becomes of the staging buffer. -/
theorem RouteLaw.write {w : Walker} {c c' : CurveStore} {b : Fin 4} {x : Bank} (h : RouteLaw (w, c))
    (hc : BankReplaced b x c c') (hbefore : (bankOf c b).state = .closed) (hafter : x.state = .closed)
    (hv : c'.verifier = c.verifier) (hs : c'.staged = c.staged ∨ c'.staged = none) : RouteLaw (w, c') := by
  have hverifier := verifierLaw_replace h.verifier hc (by simp [hbefore]) (by simp [hafter]) hv
  refine h.replace hc (.inl (by simp [hbefore])) hverifier ?_
  rcases hs with hs | hs
  · exact stagedLaw_replace h.staged hc hs (.inl hafter)
  · intro y hy
    rw [hs] at hy
    cases hy

/-- A query that leaves a section active leaves a usable one (R35, R38). -/
theorem routeLaw_walkQuery {w : Walker} {c : CurveStore} (h : RouteLaw (w, c)) (dir : Int) (p : Nat)
    (hactive : w.active ≠ 0) : RouteLaw (walkQuery c dir p w, c) := by
  refine h.withWalker fun hstill => ?_
  rcases walkQuery_cases c dir p hactive with ⟨sel, d, cur, -, hsel, -, hw⟩ | ⟨cause, sel, hw⟩
  · rw [hw]
    rcases hsel with henters | ⟨rfl, -⟩
    · exact ⟨d, henters⟩
    · exact h.active hactive
  · rw [hw] at hstill
    exact absurd rfl hstill

/-- Every act keeps the law. -/
theorem routeLaw_act (x y : Walker × CurveStore) (hact : RouteAct x y) (h : RouteLaw x) : RouteLaw y := by
  cases hact with
  | reset w c => exact ⟨nofun, verifierLaw_reset, nofun⟩
  | writeDesc w c sel d _ _ hidle =>
    refine h.withWalker fun hactive => ?_
    obtain ⟨e, he, hk⟩ := h.active hactive
    exact ⟨e, (slotGet_slotSet_other _ d hidle.symm).trans he, hk⟩
  | clearDesc w c sel hidle =>
    refine h.withWalker fun hactive => ?_
    obtain ⟨e, he, hk⟩ := h.active hactive
    exact ⟨e, (slotGet_slotErase_other _ hidle.symm).trans he, hk⟩
  | selectNull w c => exact h.withWalker fun hactive => absurd rfl hactive
  | selectSection w c sel hsel => exact h.withWalker fun _ => selectRefusal_eq_none_iff.1 hsel
  | query w c dir p hactive => exact routeLaw_walkQuery h dir p hactive
  | unstage w c n => exact ⟨h.active, h.verifier, nofun⟩
  | stage w c b _ hclosed =>
    refine ⟨h.active, h.verifier, ?_⟩
    rintro _ ⟨⟩
    exact hclosed
  | writeHead w c b group start ps _ _ hclosed =>
    exact h.write (bankReplaced_writeBurst ..) hclosed hclosed (setBank_verifier ..) (.inl (setBank_staged ..))
  | writeTail w c b ps hstaged =>
    have hclosed := h.staged b hstaged
    exact h.write ⟨(bankReplaced_writeBurst ..).bank⟩ hclosed hclosed (setBank_verifier ..) (.inr rfl)
  | startVerify w c b n now hopen =>
    obtain ⟨hstate, hidle, hother⟩ := openRefusal_eq_none hopen
    have hc := bankReplaced_startVerification c b n now
    exact h.replace hc (.inl (by rcases hstate with hs | hs <;> simp [hs]))
      (verifierLaw_start hc hidle rfl rfl rfl) (stagedLaw_replace h.staged hc (setBank_staged ..) (.inr hother))
  | complete w c v hbusy =>
    have hopening := (h.verifier v.bank).2 ⟨v, hbusy, rfl⟩
    obtain ⟨bk, hc, hidle, hstaged, -, hstate⟩ := completed_replaced v c
    have hother : ∀ y, c.staged = some y → y.bank ≠ v.bank := by
      intro y hy hb
      have hclosed := h.staged y hy
      rw [hb, hopening] at hclosed
      cases hclosed
    exact h.replace hc (.inl (by simp [hopening]))
      (verifierLaw_finish h.verifier hc hopening (by rcases hstate with hs | hs <;> simp [hs]) hidle)
      (stagedLaw_replace h.staged hc hstaged (.inr hother))
  | close w c b hfree =>
    have hc := bankReplaced_closeBank c b
    have hopening : (bankOf c b).state ≠ .opening := by rcases hfree with ⟨hs, -⟩ | hs <;> simp [hs]
    have hunused : (bankOf c b).state ≠ .opened ∨ bankInUse w b = false := by
      rcases hfree with ⟨-, huse⟩ | hs
      · exact .inr huse
      · exact .inl (by simp [hs])
    exact h.replace hc hunused (verifierLaw_replace h.verifier hc hopening nofun (setBank_verifier ..))
      (stagedLaw_replace h.staged hc (setBank_staged ..) (.inl rfl))
  | abandon w c b hopening =>
    have hc := bankReplaced_abandonVerification c b
    exact h.replace hc (.inl (by simp [hopening])) (verifierLaw_finish h.verifier hc hopening nofun rfl)
      (stagedLaw_replace h.staged hc (setBank_staged ..) (.inl rfl))
  | erase w c b hclosed =>
    exact h.write (bankReplaced_eraseBank ..) hclosed hclosed (setBank_verifier ..) (.inl (setBank_staged ..))

/-- Settles O10: every act of a step keeps the three laws together. -/
theorem stepKeepsActiveSection : Obligations.StepKeepsActiveSection := by
  intro s t hactive hverifier hstaged he
  obtain ⟨ha, hv, hs⟩ := (routeActs_step he).keeps routeLaw_act ⟨hactive, hverifier, hstaged⟩
  exact ⟨ha, hv, hs⟩

/-! ### The canonical form of the stores -/

/-- The canonical form, bank by bank (R20, R41). -/
structure RouteStores (x : Walker × CurveStore) : Prop where
  descs : slotsWf 64 x.1.descs = true
  noNull : ∀ e ∈ x.1.descs, e.1 ≠ 0
  slots : ∀ b, slotsWf 512 (bankOf x.2 b).slots = true
  group : ∀ y, x.2.staged = some y → y.group ≤ 63

theorem storesCanonical_iff (s : State) : StoresCanonical s ↔ RouteStores (route s) := by
  have hbanks : (∀ b, slotsWf 512 (bankOf s.store b).slots = true) ↔
      slotsWf 512 s.store.bank0.slots = true ∧ slotsWf 512 s.store.bank1.slots = true
        ∧ slotsWf 512 s.store.bank2.slots = true ∧ slotsWf 512 s.store.bank3.slots = true := by
    simp [Fin.forall_fin_succ, bankOf]
  simp only [StoresCanonical, Memory.wf, Bool.and_eq_true, List.all_eq_true, bne_iff_ne]
  constructor
  · rintro ⟨⟨⟨⟨⟨⟨hd, hn⟩, h0⟩, h1⟩, h2⟩, h3⟩, hg⟩
    exact ⟨hd, hn, hbanks.2 ⟨h0, h1, h2, h3⟩, hg⟩
  · rintro ⟨hd, hn, hb, hg⟩
    obtain ⟨h0, h1, h2, h3⟩ := hbanks.1 hb
    exact ⟨⟨⟨⟨⟨⟨hd, hn⟩, h0⟩, h1⟩, h2⟩, h3⟩, hg⟩

/-- A walker of the same descriptors. -/
theorem RouteStores.withWalker {w w' : Walker} {c : CurveStore} (h : RouteStores (w, c)) (hd : w'.descs = w.descs) :
    RouteStores (w', c) := ⟨hd ▸ h.descs, hd ▸ h.noNull, h.slots, h.group⟩

/-- A bank replaced by one with canonical slots, and at most a burst dropped. -/
theorem RouteStores.replace {w : Walker} {c c' : CurveStore} {b : Fin 4} {x : Bank} (h : RouteStores (w, c))
    (hc : BankReplaced b x c c') (hslots : slotsWf 512 x.slots = true)
    (hs : c'.staged = c.staged ∨ c'.staged = none) : RouteStores (w, c') := by
  refine ⟨h.descs, h.noNull, fun b' => ?_, fun y hy => ?_⟩
  · rw [hc.bank]
    split
    · exact hslots
    · exact h.slots b'
  · rcases hs with hs | hs <;> rw [hs] at hy
    · exact h.group y hy
    · cases hy

/-- Every act keeps the canonical form. -/
theorem routeStores_act (x y : Walker × CurveStore) (hact : RouteAct x y) (h : RouteStores x) : RouteStores y := by
  cases hact with
  | reset w c => exact (storesCanonical_iff _).1 ⟨reset_memory_wf, nofun⟩
  | writeDesc w c sel d hlow hhigh _ =>
    refine ⟨slotsWf_slotSet d (Nat.lt_succ_of_le hhigh) h.descs, fun e he => ?_, h.slots, h.group⟩
    rcases mem_slotSet_fst he with hsel | hmem
    · rw [hsel]; exact hlow
    · exact h.noNull e hmem
  | clearDesc w c sel _ =>
    exact ⟨slotsWf_slotErase sel h.descs, fun e he => h.noNull e (List.mem_of_mem_filter he), h.slots, h.group⟩
  | selectNull w c => exact h.withWalker rfl
  | selectSection w c sel _ => exact h.withWalker rfl
  | query w c dir p hactive => exact h.withWalker (walkQuery_descs c dir p hactive)
  | unstage w c n => exact ⟨h.descs, h.noNull, h.slots, nofun⟩
  | stage w c b hgroup _ =>
    refine ⟨h.descs, h.noNull, h.slots, ?_⟩
    rintro _ ⟨⟩
    exact hgroup
  | writeHead w c b group start ps hgroup hstart _ =>
    exact h.replace (bankReplaced_writeBurst ..)
      (slotsWf_writePositions (slotOfShort_lt hgroup hstart) ps 0 _ (h.slots b)) (.inl (setBank_staged ..))
  | writeTail w c b ps hstaged =>
    exact h.replace ⟨(bankReplaced_writeBurst ..).bank⟩
      (slotsWf_writePositions (slotOfLong_lt (h.group b hstaged) b.start) ps 0 _ (h.slots b.bank)) (.inr rfl)
  | startVerify w c b n now _ =>
    exact h.replace (bankReplaced_startVerification ..) (h.slots b) (.inl (setBank_staged ..))
  | complete w c v _ =>
    obtain ⟨bk, hc, -, hstaged, hslots, -⟩ := completed_replaced v c
    exact h.replace hc (hslots ▸ h.slots v.bank) (.inl hstaged)
  | close w c b _ => exact h.replace (bankReplaced_closeBank ..) (h.slots b) (.inl (setBank_staged ..))
  | abandon w c b _ =>
    exact h.replace (bankReplaced_abandonVerification ..)
      (h.slots b) (.inl (setBank_staged ..))
  | erase w c b _ => exact h.replace (bankReplaced_eraseBank ..) rfl (.inl (setBank_staged ..))

/-- Settles O8: every act of a step keeps the canonical form. -/
theorem stepKeepsStores : Obligations.StepKeepsStores := by
  intro s t hs he
  rw [storesCanonical_iff] at hs ⊢
  exact (routeActs_step he).keeps routeStores_act hs

end Sys2Proof.Machine

/-! SUPPORT. The requests of the section walker (R24 to R29). -/

namespace Sys2Proof.Machine

open Sys2Proof.Safety

/-- A command that is a request of the catalogue, admitted and answered by its owner (R161, R162). -/
theorem exec_concludes {c : Instr} {row : RequestRow} {port : Port} {h : Header} {args : List Byte} {s t : State}
    {result : ResultCode} {payload : ReplyPayload} (hc : exec c s = unlessHeld (receiveRow row port h args) s)
    (ha : Admitted s port h row.required)
    (ht : row.take { port := port, h := h, args := args, level := effectiveLevel s port h } (requestCounted port s)
      = (t, answer result payload)) (hl : t.line.address = s.line.address) :
    exec c s = .next (concludeRequest port h row.code args result payload t) := by
  rw [hc, unlessHeld_awake ha.1, receiveRow_answered ha ht hl]

theorem writeLevelOf_eq (w : Walker) (sel : Nat) :
    writeLevelOf w sel = ((slotGet w.descs sel).map Descriptor.writeLevel).getD 3 := by
  unfold writeLevelOf
  cases slotGet w.descs sel <;> rfl

theorem highEdge_eq (d : Descriptor) :
    highEdge d = d.base + (if d.granularity = .fine then d.lengthField + 1 else (d.lengthField + 1) * 64) - 1 := by
  unfold highEdge extent
  cases d.granularity <;> rfl

/-! ### DESC WRITE (R24 to R26) -/

theorem kindOfFields_eq_some_iff (f : DescFields) (k : SectionKind) :
    kindOfFields f = some k ↔ f.typeCode = 0 ∧ k = .invalid
      ∨ (f.typeCode = 1 ∧ f.first ≤ 511 ∧ f.count ≤ 512 ∧ f.first + f.count ≤ 512
          ∧ ∃ b : Fin 4, f.bank = b.val ∧ k = .curveList b f.first f.count)
      ∨ f.typeCode = 2 ∧ k = .plain ∨ f.typeCode = 3 ∧ k = .noTilt
      ∨ f.typeCode = 4 ∧ f.limit ≤ 800 ∧ k = .reduced f.limit := by
  unfold kindOfFields
  split
  · next hcode => simp [hcode, eq_comm]
  · next hcode =>
    unfold bankNumber
    by_cases hbank : f.bank < 4
    · have hb (b : Fin 4) : f.bank = b.val ↔ ⟨f.bank, hbank⟩ = b := by rw [Fin.ext_iff]
      simp [hcode, hbank, hb, eq_comm, and_assoc]
    · have hb (b : Fin 4) : f.bank ≠ b.val := by omega
      simp [hcode, hbank, hb]
  · next hcode => simp [hcode, eq_comm]
  · next hcode => simp [hcode, eq_comm]
  · next hcode => simp [hcode, eq_comm]
  · next h0 h1 h2 h3 h4 =>
    simp [show f.typeCode ≠ 0 from h0, show f.typeCode ≠ 1 from h1, show f.typeCode ≠ 2 from h2,
      show f.typeCode ≠ 3 from h3, show f.typeCode ≠ 4 from h4]

/-- The kinds that R25 refuses. -/
theorem kindOfFields_eq_none {f : DescFields}
    (h : 5 ≤ f.typeCode ∨ (f.typeCode = 1 ∧ (3 < f.bank ∨ 511 < f.first ∨ 512 < f.count ∨ 512 < f.first + f.count))
      ∨ (f.typeCode = 4 ∧ 800 < f.limit)) : kindOfFields f = none := by
  rw [Option.eq_none_iff_forall_ne_some]
  intro k hk
  rcases (kindOfFields_eq_some_iff f k).1 hk with
    ⟨hcode, -⟩ | ⟨hcode, hfirst, hcount, hsum, b, hb, -⟩ | ⟨hcode, -⟩ | ⟨hcode, -⟩ | ⟨hcode, hlimit, -⟩ <;> omega

/-- The descriptor stored has the fields carried, the kind they name, and the write level of R26. -/
theorem descriptorOf_eq_some {f : DescFields} {level : Nat} {d : Descriptor} (hkind : kindOfFields f = some d.kind)
    (hbase : d.base = f.base) (hlength : d.lengthField = f.lengthField) (hgran : d.granularity = f.granularity)
    (hup : d.nextUp = f.nextUp) (hdown : d.nextDown = f.nextDown)
    (hlevel : d.writeLevel = max (min f.writeLevel 3) level) (hhigh : highEdge d ≤ Config.maxChainage)
    (hup63 : f.nextUp ≤ 63) (hdown63 : f.nextDown ≤ 63) :
    descriptorOf f level = some d := by
  obtain ⟨kind, base, lengthField, granularity, nextUp, nextDown, writeLevel⟩ := d
  dsimp only at hbase hlength hgran hup hdown hlevel
  subst hbase hlength hgran hup hdown hlevel
  have hlinks : ¬ (63 < f.nextUp ∨ 63 < f.nextDown) := by omega
  simp only [descriptorOf, hkind, if_neg (Nat.not_lt.2 hhigh), if_neg hlinks]

/-- Fields that R25 refuses are stored as no descriptor. -/
theorem descriptorOf_eq_none {f : DescFields} (level : Nat)
    (h : kindOfFields f = none
      ∨ Config.maxChainage
          < f.base + (if f.granularity = .fine then f.lengthField + 1 else (f.lengthField + 1) * 64) - 1
      ∨ 63 < f.nextUp ∨ 63 < f.nextDown) : descriptorOf f level = none := by
  unfold descriptorOf
  split
  · rfl
  · next kind hkind =>
    dsimp only
    rw [highEdge_eq]
    rcases h with h | h | h
    · rw [hkind] at h; cases h
    · rw [if_pos h]
    · simp only [h, if_true, ite_self]

section
variable {r : Request} {s : State}

theorem takeDescWrite_badArg
    (h : r.args.length < 17 ∨ (descFields r.args).selector = 0 ∨ 63 < (descFields r.args).selector) :
    takeDescWrite r s = (s, answer .badArg) := by
  unfold takeDescWrite
  dsimp only
  split
  · rfl
  · next hlen => rw [if_pos (h.resolve_left hlen)]

variable (hlen : ¬ r.args.length < 17)
  (hsel : ¬ ((descFields r.args).selector = 0 ∨ 63 < (descFields r.args).selector))

include hlen hsel

theorem takeDescWrite_level (h : writeLevelOf s.walker (descFields r.args).selector < r.level) :
    takeDescWrite r s = (s, answer .level) := by
  simp only [takeDescWrite, if_neg hlen, if_neg hsel, if_pos h]

variable (hlevel : ¬ writeLevelOf s.walker (descFields r.args).selector < r.level)

include hlevel

theorem takeDescWrite_inUse (h : (descFields r.args).selector = s.walker.active) :
    takeDescWrite r s = (s, answer .inUse) := by
  simp only [takeDescWrite, if_neg hlen, if_neg hsel, if_neg hlevel, if_pos h]

variable (hidle : (descFields r.args).selector ≠ s.walker.active)

include hidle

theorem takeDescWrite_unfit (h : descriptorOf (descFields r.args) r.level = none) :
    takeDescWrite r s = (s, answer .badArg) := by
  simp only [takeDescWrite, if_neg hlen, if_neg hsel, if_neg hlevel, if_neg hidle, h]

theorem takeDescWrite_stored {d : Descriptor} (h : descriptorOf (descFields r.args) r.level = some d) :
    takeDescWrite r s =
      ({ s with walker := { s.walker with descs := slotSet s.walker.descs (descFields r.args).selector d } },
        answer (if min (descFields r.args).writeLevel 3 < r.level then .clamped else .done)
          (.writeLevel d.writeLevel)) := by
  simp only [takeDescWrite, if_neg hlen, if_neg hsel, if_neg hlevel, if_neg hidle, h]

end

/-- Settles O30: the checks in their order, each on a request that passes those before it. -/
theorem descWriteStores : Obligations.DescWriteStores := by
  intro port h args s ha f level held t run refused high unfit
  have hheld : writeLevelOf t.walker f.selector = held := writeLevelOf_eq s.walker f.selector
  have hrefused {result : ResultCode}
      (ht : takeDescWrite { port := port, h := h, args := args, level := level } t = (t, answer result)) :
      refused result := exec_concludes (row := descWriteRow) rfl ha ht (requestCounted_line_address port s)
  refine ⟨fun hbad => hrefused (takeDescWrite_badArg hbad), fun hlen hlow hhigh63 => ?_⟩
  have hlen' : ¬ args.length < 17 := Nat.not_lt.2 hlen
  have hsel : ¬ (f.selector = 0 ∨ 63 < f.selector) := by omega
  refine ⟨fun hlevel => ?_, fun hlevel hactive => ?_, fun hlevel hidle hunfit => ?_,
    fun d hlevel hidle hkind hbase hlength hgran hup hdown hwrite hup63 hdown63 hhigh => ?_⟩
  · exact hrefused (takeDescWrite_level hlen' hsel (hheld.trans_lt hlevel))
  · exact hrefused (takeDescWrite_inUse hlen' hsel (by rw [hheld]; exact Nat.not_lt.2 hlevel) hactive)
  · have hnone : descriptorOf f level = none := by
      refine descriptorOf_eq_none level ?_
      rcases hunfit with hcode | hover | hup | hdown | hlist | hreduced
      · exact .inl (kindOfFields_eq_none (.inl hcode))
      · exact .inr (.inl hover)
      · exact .inr (.inr (.inl hup))
      · exact .inr (.inr (.inr hdown))
      · exact .inl (kindOfFields_eq_none (.inr (.inl hlist)))
      · exact .inl (kindOfFields_eq_none (.inr (.inr hreduced)))
    exact hrefused (takeDescWrite_unfit hlen' hsel (by rw [hheld]; exact Nat.not_lt.2 hlevel) hidle hnone)
  · have hedge : highEdge d ≤ Config.maxChainage := by
      rw [highEdge_eq, hbase, hlength, hgran]
      exact hhigh
    have hsome : descriptorOf f level = some d :=
      descriptorOf_eq_some ((kindOfFields_eq_some_iff f d.kind).2 hkind) hbase hlength hgran hup hdown hwrite hedge
        hup63 hdown63
    have htake := takeDescWrite_stored (r := { port := port, h := h, args := args, level := level }) (s := t) hlen' hsel
      (by rw [hheld]; exact Nat.not_lt.2 hlevel) hidle hsome
    exact ⟨exec_concludes (row := descWriteRow) rfl ha htake (requestCounted_line_address port s),
      slotGet_slotSet_same .., fun i hi => slotGet_slotSet_other _ d hi⟩

/-! ### DESC CLEAR and DESC READ (R27, R28) -/

section
variable {r : Request} {s : State}

theorem takeDescClear_badArg (h : r.args.length < 1 ∨ arg8 r.args 0 = 0 ∨ 63 < arg8 r.args 0) :
    takeDescClear r s = (s, answer .badArg) := by
  unfold takeDescClear
  dsimp only
  split
  · rfl
  · next hlen => rw [if_pos (h.resolve_left hlen)]

theorem takeDescRead_badArg (h : r.args.length < 1 ∨ arg8 r.args 0 = 0 ∨ 63 < arg8 r.args 0) :
    takeDescRead r s = (s, answer .badArg) := by
  unfold takeDescRead
  dsimp only
  split
  · rfl
  · next hlen => rw [if_pos (h.resolve_left hlen)]

variable (hlen : ¬ r.args.length < 1) (hsel : ¬ (arg8 r.args 0 = 0 ∨ 63 < arg8 r.args 0))

include hlen hsel

theorem takeDescRead_shown :
    takeDescRead r s =
      (s, answer .done (.descriptor (descriptorBytes (arg8 r.args 0) (slotGet s.walker.descs (arg8 r.args 0)))
        (decide (arg8 r.args 0 = s.walker.active)))) := by
  simp only [takeDescRead, if_neg hlen, if_neg hsel]
  rfl

theorem takeDescClear_level (h : writeLevelOf s.walker (arg8 r.args 0) < r.level) :
    takeDescClear r s = (s, answer .level) := by
  simp only [takeDescClear, if_neg hlen, if_neg hsel, if_pos h]

variable (hlevel : ¬ writeLevelOf s.walker (arg8 r.args 0) < r.level)

include hlevel

theorem takeDescClear_inUse (h : arg8 r.args 0 = s.walker.active) : takeDescClear r s = (s, answer .inUse) := by
  simp only [takeDescClear, if_neg hlen, if_neg hsel, if_neg hlevel, if_pos h]

variable (hidle : arg8 r.args 0 ≠ s.walker.active)

include hidle

theorem takeDescClear_absent (h : slotGet s.walker.descs (arg8 r.args 0) = none) :
    takeDescClear r s = (s, answer .absent) := by
  simp only [takeDescClear, if_neg hlen, if_neg hsel, if_neg hlevel, if_neg hidle, h, Option.isNone_none, if_true]

theorem takeDescClear_cleared (h : slotGet s.walker.descs (arg8 r.args 0) ≠ none) :
    takeDescClear r s =
      ({ s with walker := { s.walker with descs := slotErase s.walker.descs (arg8 r.args 0) } }, answer .done) := by
  simp only [takeDescClear, if_neg hlen, if_neg hsel, if_neg hlevel, if_neg hidle, Option.isNone_iff_eq_none, if_neg h]

end

/-- Settles O31: for each request the checks in their order. -/
theorem descClearAndRead : Obligations.DescClearAndRead := by
  intro port h args s sel level held t cleared refused
  have hheld : writeLevelOf t.walker sel = held := writeLevelOf_eq s.walker sel
  have haddress : t.line.address = s.line.address := requestCounted_line_address port s
  have hpass (hlen : 1 ≤ args.length) (hlow : 1 ≤ sel) (hhigh : sel ≤ 63) :
      ¬ args.length < 1 ∧ ¬ (sel = 0 ∨ 63 < sel) := by omega
  refine ⟨fun ha => ?_, fun ha => ⟨fun hbad => ?_, fun hlen hlow hhigh => ?_⟩⟩
  · have hrefused {result : ResultCode}
        (ht : takeDescClear { port := port, h := h, args := args, level := level } t = (t, answer result)) :
        refused result := exec_concludes (row := descClearRow) rfl ha ht haddress
    refine ⟨fun hbad => hrefused (takeDescClear_badArg hbad), fun hlen hlow hhigh => ?_⟩
    obtain ⟨hlen', hsel⟩ := hpass hlen hlow hhigh
    have hpassed (hlevel : level ≤ held) : ¬ writeLevelOf t.walker sel < level := by
      rw [hheld]; exact Nat.not_lt.2 hlevel
    refine ⟨fun hlevel => ?_, fun hlevel hactive => ?_, fun hlevel hidle hnone => ?_, fun hlevel hidle hsome => ?_⟩
    · exact hrefused (takeDescClear_level hlen' hsel (hheld.trans_lt hlevel))
    · exact hrefused (takeDescClear_inUse hlen' hsel (hpassed hlevel) hactive)
    · exact hrefused (takeDescClear_absent hlen' hsel (hpassed hlevel) hidle hnone)
    · have htake := takeDescClear_cleared (r := { port := port, h := h, args := args, level := level }) (s := t) hlen'
        hsel (hpassed hlevel) hidle hsome
      exact ⟨exec_concludes (row := descClearRow) rfl ha htake haddress, slotGet_slotErase_same ..,
        fun i hi => slotGet_slotErase_other _ hi⟩
  · exact exec_concludes (row := descReadRow) rfl ha (takeDescRead_badArg hbad) haddress
  · obtain ⟨hlen', hsel⟩ := hpass hlen hlow hhigh
    exact exec_concludes (row := descReadRow) rfl ha (takeDescRead_shown hlen' hsel) haddress

/-! ### SECTION SELECT (R29) -/

section
variable {r : Request} {s : State}

theorem takeSectionSelect_short (h : r.args.length < 1) : takeSectionSelect r s = (s, answer .badArg) := by
  simp only [takeSectionSelect, if_pos h]

variable (hlen : ¬ r.args.length < 1)

include hlen

theorem takeSectionSelect_null (h : arg8 r.args 0 = 0) :
    takeSectionSelect r s =
      ({ s with walker := selectNull s.walker, demand := clearDisagree s.demand }, answer .done (.selector 0)) := by
  simp only [takeSectionSelect, if_neg hlen, if_pos h]

theorem takeSectionSelect_range (h : 63 < arg8 r.args 0) : takeSectionSelect r s = (s, answer .badArg) := by
  have hne : arg8 r.args 0 ≠ 0 := by omega
  simp only [takeSectionSelect, if_neg hlen, if_neg hne, if_pos h]

variable (hlow : arg8 r.args 0 ≠ 0) (hhigh : ¬ 63 < arg8 r.args 0)

include hlow hhigh

theorem takeSectionSelect_refused {code : ResultCode} (h : selectRefusal s.walker s.store (arg8 r.args 0) = some code) :
    takeSectionSelect r s = (s, answer code) := by
  simp only [takeSectionSelect, if_neg hlen, if_neg hlow, if_neg hhigh, h]

theorem takeSectionSelect_done (h : selectRefusal s.walker s.store (arg8 r.args 0) = none) :
    takeSectionSelect r s =
      ({ s with walker := selectSection (arg8 r.args 0) s.walker, demand := clearDisagree s.demand },
        answer .done (.selector (arg8 r.args 0))) := by
  simp only [takeSectionSelect, if_neg hlen, if_neg hlow, if_neg hhigh, h]

end

/-- Settles O32. -/
theorem sectionSelectActs : Obligations.SectionSelectActs := by
  intro port h args s sel t demand refused ha
  have haddress : t.line.address = s.line.address := requestCounted_line_address port s
  have hrefused {result : ResultCode}
      (ht : takeSectionSelect { port := port, h := h, args := args, level := effectiveLevel s port h } t
        = (t, answer result)) : refused result := exec_concludes (row := sectionSelectRow) rfl ha ht haddress
  refine ⟨fun hbad => ?_, fun hlen hlow hhigh => ?_, fun hlen hnull => ?_, fun d hlen hlow hhigh hd hk => ?_⟩
  · by_cases hlen : args.length < 1
    · exact hrefused (takeSectionSelect_short hlen)
    · exact hrefused (takeSectionSelect_range hlen (hbad.resolve_left hlen))
  · have hselect {code : ResultCode} (hcode : selectRefusal s.walker s.store sel = some code) : refused code :=
      hrefused
        (takeSectionSelect_refused (Nat.not_lt.2 hlen) (Nat.one_le_iff_ne_zero.1 hlow) (Nat.not_lt.2 hhigh) hcode)
    refine ⟨fun hnone => ?_, fun d hd => ⟨fun hkind => ?_, fun b first count hkind => ⟨fun hstate => ?_, ?_⟩⟩⟩
    · exact hselect (by simp only [selectRefusal, hnone])
    · exact hselect (by simp only [selectRefusal, hd, hkind])
    · exact hselect (by simp only [selectRefusal, hd, hkind, if_pos hstate])
    · intro hstate hfew
      exact hselect (by
        simp only [selectRefusal, hd, hkind, hstate, ne_eq, not_true_eq_false, if_false, if_pos hfew])
  · exact exec_concludes (row := sectionSelectRow) rfl ha (takeSectionSelect_null (Nat.not_lt.2 hlen) hnull) haddress
  · have hnone : selectRefusal s.walker s.store sel = none := selectRefusal_eq_none_iff.2 ⟨d, hd, hk⟩
    exact exec_concludes (row := sectionSelectRow) rfl ha
      (takeSectionSelect_done (Nat.not_lt.2 hlen) (Nat.one_le_iff_ne_zero.1 hlow) (Nat.not_lt.2 hhigh) hnone) haddress

end Sys2Proof.Machine

/-! SUPPORT. The record cursor and the geometry it gives (R30, R64 to R68). -/

namespace Sys2Proof.Machine

open Sys2Proof.Safety

/-! ### The cursor placed (R30) -/

theorem endsAbove_iff (m : List (Nat × CurveRecord)) (p i : Nat) :
    endsAbove m p i = true ↔ ∃ r, slotGet m i = some r ∧ p < recordEnd r := by
  unfold endsAbove
  cases slotGet m i <;> simp

theorem startsAtMost_iff (m : List (Nat × CurveRecord)) (p i : Nat) :
    startsAtMost m p i = true ↔ ∃ r, slotGet m i = some r ∧ r.start ≤ p := by
  unfold startsAtMost
  cases slotGet m i <;> simp

/-- A search of a list ordered by R finds its first hit: no hit stands before it in the order. -/
theorem find?_eq_some_iff_of_pairwise {R : Nat → Nat → Prop} (hasymm : ∀ a b, R a b → ¬ R b a) {l : List Nat}
    (hl : l.Pairwise R) (P : Nat → Bool) (i : Nat) :
    l.find? P = some i ↔ i ∈ l ∧ P i = true ∧ ∀ j ∈ l, R j i → ¬ P j = true := by
  induction l with
  | nil => simp
  | cons a l ih =>
    obtain ⟨hfirst, hrest⟩ := List.pairwise_cons.1 hl
    by_cases ha : P a = true
    · rw [List.find?_cons_of_pos ha]
      constructor
      · rintro ⟨⟩
        refine ⟨List.mem_cons_self, ha, fun j hj hbefore => ?_⟩
        rcases List.mem_cons.1 hj with rfl | hj
        · exact absurd hbefore (hasymm _ _ hbefore)
        · exact absurd hbefore (hasymm _ _ (hfirst j hj))
      · rintro ⟨hi, -, hnone⟩
        rcases List.mem_cons.1 hi with rfl | hi
        · rfl
        · exact absurd ha (hnone a List.mem_cons_self (hfirst i hi))
    · rw [List.find?_cons_of_neg ha, ih hrest]
      simp only [List.mem_cons, forall_eq_or_imp]
      constructor
      · rintro ⟨hi, hp, hnone⟩
        exact ⟨.inr hi, hp, fun _ => ha, hnone⟩
      · rintro ⟨hi, hp, -, hnone⟩
        exact ⟨hi.resolve_left (by rintro rfl; exact ha hp), hp, hnone⟩

theorem mem_recordIndices (first count i : Nat) : i ∈ recordIndices first count ↔ first ≤ i ∧ i < first + count := by
  simp only [recordIndices, List.mem_map, List.mem_range]
  constructor
  · rintro ⟨k, hk, rfl⟩
    omega
  · rintro ⟨hlow, hhigh⟩
    exact ⟨i - first, by omega, by omega⟩

theorem recordIndices_rising (first count : Nat) : (recordIndices first count).Pairwise (· < ·) :=
  List.pairwise_lt_range.map _ fun _ _ h => Nat.add_lt_add_left h first

section
variable (m : List (Nat × CurveRecord)) (p first count i : Nat)

/-- Travelling UP the cursor is placed at the lowest record whose end is above p (R30). -/
theorem placeCursor_up :
    placeCursor m 1 p first count = .atRecord i ↔ first ≤ i ∧ i < first + count ∧ endsAbove m p i = true
      ∧ ∀ j, first ≤ j → j < i → ¬ endsAbove m p j = true := by
  have hplace : placeCursor m 1 p first count = .atRecord i
      ↔ (recordIndices first count).find? (endsAbove m p) = some i := by
    simp only [placeCursor, Int.one_pos, if_true]
    cases (recordIndices first count).find? (endsAbove m p) <;> simp
  rw [hplace, find?_eq_some_iff_of_pairwise (fun _ _ => Nat.lt_asymm) (recordIndices_rising first count)]
  simp only [mem_recordIndices, and_assoc]
  refine and_congr_right fun hlow => and_congr_right fun hhigh => and_congr_right fun _ => ?_
  exact ⟨fun h j hj hji => h j ⟨hj, hji.trans hhigh⟩ hji, fun h j hj hji => h j hj.1 hji⟩

/-- Travelling DOWN it is placed at the highest record whose start is at most p (R30). -/
theorem placeCursor_down :
    placeCursor m (-1) p first count = .atRecord i ↔ first ≤ i ∧ i < first + count ∧ startsAtMost m p i = true
      ∧ ∀ j, i < j → j < first + count → ¬ startsAtMost m p j = true := by
  have hplace : placeCursor m (-1) p first count = .atRecord i
      ↔ (recordIndices first count).reverse.find? (startsAtMost m p) = some i := by
    simp only [placeCursor, show ¬ (0 : Int) < -1 by decide, if_false]
    cases (recordIndices first count).reverse.find? (startsAtMost m p) <;> simp
  rw [hplace, find?_eq_some_iff_of_pairwise (R := (· > ·)) (fun _ _ => Nat.lt_asymm)
    (List.pairwise_reverse.2 (recordIndices_rising first count))]
  simp only [List.mem_reverse, mem_recordIndices, and_assoc]
  refine and_congr_right fun hlow => and_congr_right fun hhigh => and_congr_right fun _ => ?_
  exact ⟨fun h j hij hj => h j ⟨hlow.trans hij.le, hj⟩ hij, fun h j hj hij => h j hij hj.2⟩

end

/-! ### The cursor moved (R64, R65) -/

/-- Travelling UP the cursor moves on to the nearest record ahead whose end is above p (R64). -/
theorem moveUp_eq_atRecord_iff (m : List (Nat × CurveRecord)) (p last i : Nat) {fuel k : Nat} (hk : k ≤ last)
    (hfuel : last - k < fuel) :
    moveUp m p last fuel k = .atRecord i ↔ k ≤ i ∧ i ≤ last ∧ endsAbove m p i = true
      ∧ ∀ j, k ≤ j → j < i → ¬ endsAbove m p j = true := by
  induction fuel generalizing k with
  | zero => omega
  | succ fuel ih =>
    rw [moveUp]
    split
    · next hit =>
      rw [Cursor.atRecord.injEq]
      constructor
      · rintro rfl
        exact ⟨Nat.le_refl k, hk, hit, fun j hj hjk => absurd hj (Nat.not_le.2 hjk)⟩
      · rintro ⟨hki, -, -, hnone⟩
        exact hki.eq_or_lt.resolve_right fun hlt => hnone k (Nat.le_refl k) hlt hit
    · next hmiss =>
      have hne (h : endsAbove m p i = true) : k ≠ i := by
        rintro rfl
        exact hmiss h
      split
      · next hlast =>
        refine ⟨nofun, fun ⟨hki, hil, hit, _⟩ => ?_⟩
        exact absurd (le_antisymm hki (hil.trans hlast.ge)) (hne hit)
      · next hlast =>
        rw [ih (by omega) (by omega)]
        constructor
        · rintro ⟨hki, hil, hit, hnone⟩
          refine ⟨by omega, hil, hit, fun j hj hji => ?_⟩
          rcases hj.eq_or_lt with rfl | hlt
          · exact hmiss
          · exact hnone j hlt hji
        · rintro ⟨hki, hil, hit, hnone⟩
          exact ⟨lt_of_le_of_ne hki (hne hit), hil, hit, fun j hj hji => hnone j (by omega) hji⟩

/-- Travelling DOWN it moves on to the nearest record ahead whose start is at most p (R65). -/
theorem moveDown_eq_atRecord_iff (m : List (Nat × CurveRecord)) (p first i : Nat) {fuel k : Nat} (hk : first ≤ k)
    (hfuel : k - first < fuel) :
    moveDown m p first fuel k = .atRecord i ↔ first ≤ i ∧ i ≤ k ∧ startsAtMost m p i = true
      ∧ ∀ j, i < j → j ≤ k → ¬ startsAtMost m p j = true := by
  induction fuel generalizing k with
  | zero => omega
  | succ fuel ih =>
    rw [moveDown]
    split
    · next hit =>
      rw [Cursor.atRecord.injEq]
      constructor
      · rintro rfl
        exact ⟨hk, Nat.le_refl k, hit, fun j hkj hj => absurd hj (Nat.not_le.2 hkj)⟩
      · rintro ⟨-, hik, -, hnone⟩
        exact (hik.eq_or_lt.resolve_right fun hlt => hnone k hlt (Nat.le_refl k) hit).symm
    · next hmiss =>
      have hne (h : startsAtMost m p i = true) : i ≠ k := by
        rintro rfl
        exact hmiss h
      split
      · next hfirst =>
        refine ⟨nofun, fun ⟨hfi, hik, hit, _⟩ => ?_⟩
        exact absurd (le_antisymm hik (hfirst.le.trans hfi)) (hne hit)
      · next hfirst =>
        rw [ih (by omega) (by omega)]
        constructor
        · rintro ⟨hfi, hik, hit, hnone⟩
          refine ⟨hfi, by omega, hit, fun j hij hj => ?_⟩
          rcases hj.eq_or_lt with rfl | hlt
          · exact hmiss
          · exact hnone j hij (by omega)
        · rintro ⟨hfi, hik, hit, hnone⟩
          have hlt := lt_of_le_of_ne hik (hne hit)
          exact ⟨hfi, by omega, hit, fun j hij hj => hnone j hij (by omega)⟩

theorem moveUp_placed (m : List (Nat × CurveRecord)) (p last fuel k : Nat) :
    (∃ i, moveUp m p last fuel k = .atRecord i) ∨ moveUp m p last fuel k = .exhausted := by
  induction fuel generalizing k with
  | zero => exact .inr rfl
  | succ fuel ih =>
    rw [moveUp]
    split_ifs
    · exact .inl ⟨k, rfl⟩
    · exact .inr rfl
    · exact ih _

theorem moveDown_placed (m : List (Nat × CurveRecord)) (p first fuel k : Nat) :
    (∃ i, moveDown m p first fuel k = .atRecord i) ∨ moveDown m p first fuel k = .exhausted := by
  induction fuel generalizing k with
  | zero => exact .inr rfl
  | succ fuel ih =>
    rw [moveDown]
    split_ifs
    · exact .inl ⟨k, rfl⟩
    · exact .inr rfl
    · exact ih _

/-- An advanced cursor is at a record or EXHAUSTED. -/
theorem advanceCursor_placed (m : List (Nat × CurveRecord)) (dir : Int) (p first count : Nat) (cur : Cursor) :
    (∃ i, advanceCursor m dir p first count cur = .atRecord i)
      ∨ advanceCursor m dir p first count cur = .exhausted := by
  cases cur with
  | unplaced =>
    rw [advanceCursor, placeCursor]
    split
    · exact .inl ⟨_, rfl⟩
    · exact .inr rfl
  | atRecord k =>
    rw [advanceCursor]
    split
    · exact moveUp_placed ..
    · exact moveDown_placed ..
  | exhausted => exact .inr rfl

/-! ### The geometry at a point (R66 to R68) -/

/-- The cursor stands at record i of a section of records, which holds p. -/
def CursorReads (c : CurveStore) (cur : Cursor) (d : Descriptor) (p i : Nat) (r : CurveRecord) : Prop :=
  ∃ b first count, d.kind = .curveList b first count ∧ cur = .atRecord i ∧ slotGet (bankOf c b).slots i = some r
    ∧ r.start ≤ p ∧ p < recordEnd r

theorem sectionGeometry_of_reads {c : CurveStore} {cur : Cursor} {d : Descriptor} {p i : Nat} {r : CurveRecord}
    (h : CursorReads c cur d p i r) :
    sectionGeometry c cur d p =
      { kappa := transitionValue r r.kappa p, cant := transitionValue r r.cant p, comp := r.comp
        record := some i } := by
  obtain ⟨b, first, count, hkind, rfl, hslot, hlow, hhigh⟩ := h
  have hholds : recordHolds r p = true := by simp [recordHolds, hlow, hhigh]
  simp only [sectionGeometry, hkind, geometryAt, hslot, hholds, if_true]

theorem sectionGeometry_flat {c : CurveStore} {cur : Cursor} {d : Descriptor} {p : Nat}
    (h : ∀ i r, ¬ CursorReads c cur d p i r) : sectionGeometry c cur d p = flatGeometry := by
  unfold sectionGeometry
  split
  · next b first count hkind =>
    cases cur with
    | atRecord i =>
      rw [geometryAt]
      split
      · next r hslot =>
        split
        · next hholds =>
          simp only [recordHolds, Bool.and_eq_true, decide_eq_true_eq] at hholds
          exact absurd ⟨b, first, count, hkind, rfl, hslot, hholds⟩ (h i r)
        · rfl
      · rfl
    | unplaced => rfl
    | exhausted => rfl
  · rfl

/-- Settles O60: the cursor's part by its three states, the geometry's by whether the cursor's record holds p. -/
theorem cursorFindsRecord : Obligations.CursorFindsRecord := by
  constructor
  · intro m p first count above atMost up down
    have habove (i : Nat) : endsAbove m p i = true ↔ above i := endsAbove_iff m p i
    have hatMost (i : Nat) : startsAtMost m p i = true ↔ atMost i := startsAtMost_iff m p i
    refine ⟨fun i => ?_, fun i => ?_, rfl, rfl, fun k i hlow hhigh => ⟨?_, ?_⟩, fun cur => ?_⟩
    · have h := placeCursor_up m p first count i
      simp only [habove] at h
      exact h
    · have h := placeCursor_down m p first count i
      simp only [hatMost] at h
      exact h
    · have hlast : i ≤ first + count - 1 ↔ i < first + count := by omega
      have h := moveUp_eq_atRecord_iff m p (first + count - 1) i (fuel := count + 1) (k := k) (by omega) (by omega)
      simp only [habove, hlast] at h
      exact h
    · have h := moveDown_eq_atRecord_iff m p first i (fuel := count + 1) hlow (by omega)
      simp only [hatMost] at h
      exact h
    · exact ⟨advanceCursor_placed .., advanceCursor_placed ..⟩
  · intro c cur d dir p g stop reads
    refine ⟨fun i r hreads => ?_, fun hnone => ?_⟩
    · intro value
      have hgeometry : g = trainGeometry dir _ := congrArg (trainGeometry dir) (sectionGeometry_of_reads hreads)
      rw [hgeometry]
      rfl
    · have hgeometry : g = trainGeometry dir flatGeometry := congrArg (trainGeometry dir) (sectionGeometry_flat hnone)
      rw [hgeometry]
      simp [trainGeometry, flatGeometry]

end Sys2Proof.Machine

/-! SUPPORT. The route answer (R31 to R36, R62, R69 to R73): the walk along its path, the restriction search, and what a
geometry query answers. -/

namespace Sys2Proof.Machine

open Sys2Proof.Safety

/-! ### The walk, link by link (R33, R34) -/

section
variable {w : Walker} {c : CurveStore} {dir : Int} {p links sel : Nat} {d x : Descriptor}

theorem walkForward_end (hlink : forwardLink d dir = 0) :
    walkForward w c dir p (links + 1) sel d = .lost .sectionLost sel := by
  rw [walkForward, if_pos hlink]

theorem walkForward_fails (hlink : forwardLink d dir ≠ 0) {cause : EntryCause}
    (hfails : EntryFails w c (forwardLink d dir) cause) :
    walkForward w c dir p (links + 1) sel d = .lost (.entry cause) (forwardLink d dir) := by
  rw [walkForward, if_neg hlink, (entryCheck_eq_error_iff ..).2 hfails]

theorem walkForward_inside (hlink : forwardLink d dir ≠ 0) (henters : Enters w c (forwardLink d dir) x)
    (hplace : Inside x p) : walkForward w c dir p (links + 1) sel d = .entered (forwardLink d dir) := by
  simp only [walkForward, if_neg hlink, (entryCheck_eq_ok_iff ..).2 henters, (placeOf_eq_inside_iff x dir p).2 hplace]

theorem walkForward_beyond (hlink : forwardLink d dir ≠ 0) (henters : Enters w c (forwardLink d dir) x)
    (hplace : Beyond x dir p) :
    walkForward w c dir p (links + 1) sel d = walkForward w c dir p links (forwardLink d dir) x := by
  simp only [walkForward, if_neg hlink, (entryCheck_eq_ok_iff ..).2 henters, (placeOf_eq_beyond_iff x dir p).2 hplace]

theorem walkForward_behind (hlink : forwardLink d dir ≠ 0) (henters : Enters w c (forwardLink d dir) x)
    (hplace : Behind x dir p) :
    walkForward w c dir p (links + 1) sel d = .lost .sectionLost (forwardLink d dir) := by
  simp only [walkForward, if_neg hlink, (entryCheck_eq_ok_iff ..).2 henters, (placeOf_eq_behind_iff x dir p).2 hplace]

theorem walkBackward_end (hlink : backwardLink d dir = 0) : walkBackward w c dir p sel d = .lost .sectionLost sel := by
  rw [walkBackward, if_pos hlink]

theorem walkBackward_fails (hlink : backwardLink d dir ≠ 0) {cause : EntryCause}
    (hfails : EntryFails w c (backwardLink d dir) cause) :
    walkBackward w c dir p sel d = .lost (.entry cause) (backwardLink d dir) := by
  rw [walkBackward, if_neg hlink, (entryCheck_eq_error_iff ..).2 hfails]

theorem walkBackward_inside (hlink : backwardLink d dir ≠ 0) (henters : Enters w c (backwardLink d dir) x)
    (hplace : Inside x p) : walkBackward w c dir p sel d = .entered (backwardLink d dir) := by
  simp only [walkBackward, if_neg hlink, (entryCheck_eq_ok_iff ..).2 henters, (placeOf_eq_inside_iff x dir p).2 hplace]

theorem walkBackward_outside (hlink : backwardLink d dir ≠ 0) (henters : Enters w c (backwardLink d dir) x)
    (hplace : ¬ Inside x p) : walkBackward w c dir p sel d = .lost .sectionLost (backwardLink d dir) := by
  rw [walkBackward, if_neg hlink, (entryCheck_eq_ok_iff ..).2 henters]
  dsimp only
  split
  · next hinside => exact absurd ((placeOf_eq_inside_iff ..).1 hinside) hplace
  · rfl

theorem pathAhead_succ {n : Nat} (hd : slotGet w.descs (pathAhead w dir n) = some d) :
    pathAhead w dir (n + 1) = forwardLink d dir := by
  rw [pathAhead, hd]
  rfl

/-- A walk forward passes each section of its path that may be entered and that the point lies beyond. -/
theorem walkForward_path (hd : slotGet w.descs w.active = some d) {n : Nat} (hn : n ≤ 4)
    (hpath : ∀ j, 1 ≤ j → j ≤ n →
      pathAhead w dir j ≠ 0 ∧ ∃ x, Enters w c (pathAhead w dir j) x ∧ Beyond x dir p) :
    ∃ x, slotGet w.descs (pathAhead w dir n) = some x
      ∧ walkForward w c dir p 4 w.active d = walkForward w c dir p (4 - n) (pathAhead w dir n) x := by
  induction n with
  | zero => exact ⟨d, hd, rfl⟩
  | succ n ih =>
    obtain ⟨y, hy, hwalk⟩ := ih (by omega) fun j h1 hj => hpath j h1 (by omega)
    obtain ⟨hne, x, henters, hbeyond⟩ := hpath (n + 1) (by omega) (Nat.le_refl _)
    rw [pathAhead_succ hy] at hne henters ⊢
    refine ⟨x, henters.1, hwalk.trans ?_⟩
    rw [show 4 - n = 4 - (n + 1) + 1 by omega]
    exact walkForward_beyond hne henters hbeyond

variable (hd : slotGet w.descs w.active = some d) (cur : Cursor)

include hd

theorem walk_inside (hplace : Inside d p) : walk c dir p { w with cursor := cur } = { w with cursor := cur } := by
  simp only [walk, hd, (placeOf_eq_inside_iff d dir p).2 hplace]

theorem walk_beyond (hplace : Beyond d dir p) :
    walk c dir p { w with cursor := cur } =
      settleWalk (walkForward w c dir p 4 w.active d) { w with cursor := cur } := by
  simp only [walk, hd, (placeOf_eq_beyond_iff d dir p).2 hplace, walkForward_cursor]

theorem walk_behind (hplace : Behind d dir p) :
    walk c dir p { w with cursor := cur } =
      settleWalk (walkBackward w c dir p w.active d) { w with cursor := cur } := by
  simp only [walk, hd, (placeOf_eq_behind_iff d dir p).2 hplace]
  rfl

end

/-! ### The query by the outcome of its walk (R31, R36) -/

section
variable {c : CurveStore} {dir : Int} {p sel : Nat} {w : Walker} {o : WalkOutcome} {d : Descriptor} {cause : NullCause}

/-- A query whose walk enters a section stands there, the cursor placed afresh. -/
theorem walkQuery_entered
    (hwalk : ∀ cur, walk c dir p { w with cursor := cur } = settleWalk o { w with cursor := cur })
    (ho : o = .entered sel) (hsel : sel ≠ 0) (hd : slotGet w.descs sel = some d) :
    walkQuery c dir p w = standing c dir p sel d .unplaced w := by
  subst ho
  exact walkQuery_of_walk (hwalk _) hsel hd

/-- A query whose walk is lost loses the section. -/
theorem walkQuery_lost (hwalk : ∀ cur, walk c dir p { w with cursor := cur } = settleWalk o { w with cursor := cur })
    (ho : o = .lost cause sel) : walkQuery c dir p w = loseSection cause sel w := by
  subst ho
  exact walkQuery_of_lost (hwalk _)

end

theorem cursorStale_iff (w : Walker) (dir : Int) (p : Nat) :
    cursorStale w dir p = true ↔ (∃ x, w.lastDir = some x ∧ x ≠ dirOf dir)
      ∨ ∃ x, w.lastPoint = some x ∧ dir * ((p : Int) - x) < 0 := by
  unfold cursorStale
  cases w.lastDir <;> cases w.lastPoint <;> simp

/-! ### The restriction search (R70 to R72) -/

theorem mem_contribution_iff (d : Descriptor) (dir : Int) (car r : Nat) (source : RestrictionSource)
    (value a b : Nat) (y : Restriction) :
    y ∈ contribution d dir car r source value a b ↔
      (∃ q, a ≤ q ∧ q ≤ b ∧ Inside d q ∧ min car r ≤ q ∧ q ≤ max car r)
        ∧ y = { value := value, source := source
                distance := if 0 < dir then max a (min car r) - car else car - min b (max car r) } := by
  unfold contribution
  dsimp only
  rw [← highEnd_eq]
  split
  · next h =>
    rw [List.mem_singleton]
    refine ⟨fun hy => ⟨⟨max (max a (min car r)) d.base, ?_, ?_, ⟨?_, ?_⟩, ?_, ?_⟩, hy⟩, fun hy => hy.2⟩ <;> omega
  · next h =>
    refine ⟨nofun, ?_⟩
    rintro ⟨⟨q, haq, hqb, ⟨hbase, hhigh⟩, hmin, hmax⟩, -⟩
    omega

/-- A section contributes what the stretches of its restrictions do. -/
theorem contributes_iff (c : CurveStore) (sel : Nat) (d : Descriptor) (dir : Int) (car r : Nat) (y : Restriction) :
    Contributes c sel d dir car r y.source y.value y.distance ↔
      ∃ a b, Restricts c sel d y.source y.value a b ∧ y ∈ contribution d dir car r y.source y.value a b := by
  simp only [mem_contribution_iff]
  refine exists_congr fun a => exists_congr fun b => and_congr_right fun _ => and_congr_right fun _ => ?_
  obtain ⟨value, source, distance⟩ := y
  simp

theorem recordLimit_eq_some_iff (x : CurveRecord) (value : Nat) :
    recordLimit x = some value ↔ if x.noTilt then value = 0 else x.limit = some value := by
  unfold recordLimit
  split <;> simp [eq_comm]

theorem mem_recordContribution_iff (m : List (Nat × CurveRecord)) (sel : Nat) (d : Descriptor) (dir : Int)
    (car r i : Nat) (y : Restriction) :
    y ∈ recordContribution m sel d dir car r i ↔ ∃ x value, slotGet m i = some x ∧ recordLimit x = some value
      ∧ x.start < recordEnd x ∧ y ∈ contribution d dir car r ⟨sel, some i⟩ value x.start (recordEnd x - 1) := by
  unfold recordContribution
  cases slotGet m i with
  | none => simp
  | some x =>
    cases hlimit : recordLimit x with
    | none => simp [hlimit]
    | some value =>
      by_cases hlength : x.start < recordEnd x <;> simp [hlimit, hlength]

/-- The restrictions listed for a section are those it contributes (R71). -/
theorem mem_sectionRestrictions_iff (c : CurveStore) (sel : Nat) (d : Descriptor) (dir : Int) (car r : Nat)
    (y : Restriction) :
    y ∈ sectionRestrictions c sel d dir car r ↔ Contributes c sel d dir car r y.source y.value y.distance := by
  rw [contributes_iff]
  have hsource {source : RestrictionSource} {value a b : Nat}
      (hy : y ∈ contribution d dir car r source value a b) : y.source = source ∧ y.value = value := by
    obtain ⟨-, rfl⟩ := (mem_contribution_iff ..).1 hy
    exact ⟨rfl, rfl⟩
  have hwhole (limit : Nat) :
      y ∈ contribution d dir car r ⟨sel, none⟩ limit d.base (highEdge d) ↔
        ∃ a b, (y.source.selector = sel ∧ y.source.record = none ∧ y.value = limit ∧ a = d.base ∧ b = highEnd d)
          ∧ y ∈ contribution d dir car r y.source y.value a b := by
    rw [← highEnd_eq]
    constructor
    · intro hy
      obtain ⟨hs, hv⟩ := hsource hy
      exact ⟨_, _, ⟨by rw [hs], by rw [hs], hv, rfl, rfl⟩, by rwa [hs, hv]⟩
    · rintro ⟨a, b, ⟨hsel, hrecord, hv, rfl, rfl⟩, hy⟩
      have hs : y.source = ⟨sel, none⟩ := by rw [← hsel, ← hrecord]
      rwa [hs, hv] at hy
  unfold sectionRestrictions Restricts
  cases hkind : d.kind with
  | invalid => simp
  | plain => simp
  | noTilt =>
    dsimp only
    rw [hwhole 0]
    cases y.source.record <;> simp
  | reduced limit =>
    dsimp only
    rw [hwhole limit]
    cases y.source.record <;> simp
  | curveList bank first count =>
    simp only [List.mem_flatMap, mem_recordIndices, mem_recordContribution_iff]
    constructor
    · rintro ⟨i, ⟨hlow, hhigh⟩, x, value, hslot, hlimit, hlength, hy⟩
      obtain ⟨hs, hv⟩ := hsource hy
      refine ⟨x.start, recordEnd x - 1, ⟨by rw [hs], ?_⟩, by rwa [hs, hv]⟩
      rw [hs, hv]
      exact ⟨hlow, hhigh, x, hslot, (recordLimit_eq_some_iff ..).1 hlimit, hlength, rfl, rfl⟩
    · rintro ⟨a, b, ⟨hsel, hrecord⟩, hy⟩
      split at hrecord
      case h_3 bank' first' count' i hkind' hi =>
        cases hkind'
        obtain ⟨hlow, hhigh, x, hslot, hlimit, hlength, rfl, rfl⟩ := hrecord
        have hs : y.source = ⟨sel, some i⟩ := by rw [← hsel, ← hi]
        refine ⟨i, ⟨hlow, hhigh⟩, x, y.value, hslot, (recordLimit_eq_some_iff ..).2 hlimit, hlength, ?_⟩
        rwa [hs] at hy
      all_goals contradiction

/-- A restriction stands before another: it is lower, or as low and nearer (R71). -/
def Restriction.Below (x y : Restriction) : Prop := x.value < y.value ∨ x.value = y.value ∧ x.distance < y.distance

theorem lowerOf_cases (x y : Restriction) : (lowerOf x y = y ∧ y.Below x) ∨ (lowerOf x y = x ∧ ¬ y.Below x) := by
  unfold lowerOf
  split
  · next h => exact .inl ⟨rfl, h⟩
  · next h => exact .inr ⟨rfl, h⟩

/-- A fold over restrictions keeps the first of the lowest. -/
theorem foldl_lowerOf (x : Restriction) (xs : List Restriction) :
    (xs.foldl lowerOf x = x ∨ xs.foldl lowerOf x ∈ xs ∧ (xs.foldl lowerOf x).Below x)
      ∧ ¬ x.Below (xs.foldl lowerOf x) ∧ ∀ y ∈ xs, ¬ y.Below (xs.foldl lowerOf x) := by
  induction xs generalizing x with
  | nil => simp [Restriction.Below]
  | cons a xs ih =>
    obtain ⟨hfirst, hstart, hrest⟩ := ih (lowerOf x a)
    rw [List.foldl_cons]
    generalize xs.foldl lowerOf (lowerOf x a) = z at hfirst hstart hrest
    simp only [List.mem_cons, forall_eq_or_imp]
    rcases lowerOf_cases x a with ⟨hl, ha⟩ | ⟨hl, ha⟩ <;> rw [hl] at hfirst hstart
    · refine ⟨.inr ?_, ?_, hstart, hrest⟩
      · rcases hfirst with rfl | ⟨hmem, hz⟩
        · exact ⟨.inl rfl, ha⟩
        · exact ⟨.inr hmem, by unfold Restriction.Below at *; omega⟩
      · unfold Restriction.Below at *
        omega
    · refine ⟨hfirst.imp_right fun h => ⟨.inr h.1, h.2⟩, hstart, ?_, hrest⟩
      rcases hfirst with rfl | ⟨-, hz⟩
      · exact ha
      · unfold Restriction.Below at *
        omega

/-- The lowest of two lists' restrictions is a lowest of both, and of the second only when it is below every one of the
first (R71). -/
theorem lowest_append {here there : List Restriction} {z : Restriction} (h : lowest (here ++ there) = some z) :
    (z ∈ here ∨ z ∈ there ∧ ∀ y ∈ here, z.Below y) ∧ ∀ y ∈ here ++ there, ¬ y.Below z := by
  cases here with
  | nil =>
    cases there with
    | nil => cases h
    | cons x xs =>
      cases h
      obtain ⟨hfirst, hstart, hrest⟩ := foldl_lowerOf x xs
      refine ⟨.inr ⟨?_, nofun⟩, ?_⟩
      · exact List.mem_cons.2 (hfirst.imp_right And.left)
      · exact List.forall_mem_cons.2 ⟨hstart, hrest⟩
  | cons x xs =>
    rw [List.cons_append, lowest, Option.some.injEq, List.foldl_append] at h
    subst h
    obtain ⟨hfirst, hstart, hrest⟩ := foldl_lowerOf x xs
    generalize xs.foldl lowerOf x = u at hfirst hstart hrest
    obtain ⟨hlater, hu, hthere⟩ := foldl_lowerOf u there
    generalize there.foldl lowerOf u = z at hlater hu hthere
    have hhere : ∀ y ∈ x :: xs, ¬ y.Below u := List.forall_mem_cons.2 ⟨hstart, hrest⟩
    have hmem : u ∈ x :: xs := List.mem_cons.2 (hfirst.imp_right And.left)
    constructor
    · refine hlater.imp (fun hz : z = u => hz ▸ hmem) fun ⟨hz, hbelow⟩ => ⟨hz, fun y hy => ?_⟩
      have := hhere y hy
      unfold Restriction.Below at *
      omega
    · intro y hy
      rcases List.mem_append.1 hy with hy | hy
      · have := hhere y hy
        rcases hlater with rfl | ⟨-, hbelow⟩
        · exact this
        · unfold Restriction.Below at *
          omega
      · exact hthere y hy

theorem lowest_eq_none_iff (l : List Restriction) : lowest l = none ↔ l = [] := by cases l <;> simp [lowest]

section
variable {w : Walker} {c : CurveStore} {d : Descriptor} {dir : Int} {car r : Nat}

theorem searchRestrictions_noNext (hfar : Beyond d dir r) (hnext : forwardLink d dir = 0) :
    searchRestrictions w c d dir car r = .unknown .noNext := by
  simp only [searchRestrictions, (placeOf_eq_beyond_iff d dir r).2 hfar, if_true, if_pos hnext]

theorem searchRestrictions_fails (hfar : Beyond d dir r) (hnext : forwardLink d dir ≠ 0) {cause : EntryCause}
    (hfails : EntryFails w c (forwardLink d dir) cause) :
    searchRestrictions w c d dir car r = .unknown (.entry cause) := by
  simp only [searchRestrictions, (placeOf_eq_beyond_iff d dir r).2 hfar, if_true, if_neg hnext,
    (entryCheck_eq_error_iff ..).2 hfails]

/-- A search that is not stopped gives the lowest of what the active section contributes and, when r lies beyond it, the
next (R70, R71). -/
theorem searchRestrictions_known
    (h : ¬ Beyond d dir r ∨ (forwardLink d dir ≠ 0 ∧ ∃ d', Enters w c (forwardLink d dir) d')) :
    ∃ there, searchRestrictions w c d dir car r
        = .known (lowest (sectionRestrictions c w.active d dir car r ++ there))
      ∧ ∀ y, y ∈ there ↔ Beyond d dir r ∧ ∃ d', Enters w c (forwardLink d dir) d'
          ∧ Contributes c (forwardLink d dir) d' dir car r y.source y.value y.distance := by
  by_cases hfar : Beyond d dir r
  · obtain ⟨hnext, d', henters⟩ := h.resolve_left (not_not.2 hfar)
    refine ⟨sectionRestrictions c (forwardLink d dir) d' dir car r, ?_, fun y => ?_⟩
    · simp only [searchRestrictions, (placeOf_eq_beyond_iff d dir r).2 hfar, if_true, if_neg hnext,
        (entryCheck_eq_ok_iff ..).2 henters]
    · rw [mem_sectionRestrictions_iff]
      refine ⟨fun hy => ⟨hfar, d', henters, hy⟩, ?_⟩
      rintro ⟨-, x, hx, hy⟩
      have hxd : some x = some d' := hx.1.symm.trans henters.1
      cases hxd
      exact hy
  · refine ⟨[], ?_, fun y => by simp [hfar]⟩
    have hplace : placeOf d dir r ≠ .beyond := fun hp => hfar ((placeOf_eq_beyond_iff d dir r).1 hp)
    simp only [searchRestrictions, if_neg hplace, List.append_nil]

theorem contributes_selector {sel : Nat} {x : RestrictionSource} {v n : Nat} (h : Contributes c sel d dir car r x v n) :
    x.selector = sel := by
  obtain ⟨_, _, hrestricts, _⟩ := h
  exact hrestricts.1

end

/-! ### The answer (R62, R63, R69, R73) -/

theorem lookaheadPoint_eq (pa : PositionAnswer) (prev : Option Int) (rateMax : Nat) :
    lookaheadPoint pa prev rateMax = (max 0 (min 16777215 ((pa.car : Int) + pa.d *
      ((pa.v * (match prev with | some x => x.natAbs | none => 800) + (10 * rateMax - 1)) / (10 * rateMax)
        + pa.previewDm : Nat)))).toNat := by
  cases prev <;> rfl

/-- What an answer says of the restrictions is what its search found. -/
theorem routeAnswer_lEff (p : Params) (form : RouteForm) (active : Nat) (kind : Option SectionKind)
    (res : SearchResult) :
    (routeAnswer p form active kind res).lEff =
      (if (routeAnswer p form active kind res).outcome ≠ .known then min p.tiltLimit p.reducedLimit
        else match (routeAnswer p form active kind res).lowest with
          | none => p.tiltLimit
          | some x => min p.tiltLimit x) := by
  cases res with
  | known found => cases found <;> simp [routeAnswer, effectiveLimit, outcomeOf, foundOf]
  | unknown cause => simp [routeAnswer, effectiveLimit, outcomeOf]

theorem routeAnswer_unknown (p : Params) (form : RouteForm) (active : Nat) (kind : Option SectionKind)
    (res : SearchResult) (h : (routeAnswer p form active kind res).outcome ≠ .known) :
    (routeAnswer p form active kind res).lowest = none ∧ (routeAnswer p form active kind res).source = none := by
  cases res with
  | known found => exact absurd rfl h
  | unknown cause => exact ⟨rfl, rfl⟩

theorem noteAnswer_failures (ra : RouteAnswer) (l : Lookahead) :
    (noteAnswer ra l).failures = match ra.outcome with
      | .unknown .noNext => min 65535 (l.failures + 1)
      | .unknown (.entry _) => min 65535 (l.failures + 1)
      | _ => l.failures := by
  unfold noteAnswer
  dsimp only
  cases ra.outcome with
  | known => rfl
  | unknown cause => cases cause <;> rfl

/-- A query leaves the walker alone without a usable position, and when no section is active (R31). -/
theorem geometryQuery_idle {pa : PositionAnswer} {s : State} (h : pa.usable = false ∨ s.walker.active = 0) :
    (geometryQuery pa s).1.walker = s.walker := by
  rcases h with h | h <;> simp [geometryQuery, h]

theorem geometryQuery_walked {pa : PositionAnswer} {s : State} (hu : pa.usable = true) (ha : s.walker.active ≠ 0) :
    (geometryQuery pa s).1.walker = walkQuery s.store pa.d pa.p s.walker := by
  simp [geometryQuery, hu, ha]

theorem geometryQuery_answer (pa : PositionAnswer) (s : State) :
    (geometryQuery pa s).2 =
      if pa.usable then answerOn pa s.mode.prevCommand s.params (geometryQuery pa s).1.walker s.store
      else unavailableAnswer s.params := rfl

/-- Under the law of R38 a query answers UNAVAILABLE, NO SECTION, or SECTION on a usable section that holds p, which the
walker has active after it (R62). -/
theorem geometryQuery_cases (pa : PositionAnswer) {s : State} (hlaw : ActiveSectionLaw s) :
    (pa.usable = false ∧ (geometryQuery pa s).2 = unavailableAnswer s.params)
      ∨ (pa.usable = true ∧ (geometryQuery pa s).1.walker.active = 0
        ∧ (geometryQuery pa s).2 = noSectionAnswer s.params)
      ∨ (pa.usable = true ∧ (geometryQuery pa s).1.walker.active ≠ 0
        ∧ (geometryQuery pa s).1.walker.descs = s.walker.descs
        ∧ ∃ d, Enters s.walker s.store (geometryQuery pa s).1.walker.active d ∧ Inside d pa.p
          ∧ (geometryQuery pa s).2
            = sectionAnswer pa s.mode.prevCommand s.params (geometryQuery pa s).1.walker s.store d) := by
  have hanswer := geometryQuery_answer pa s
  cases hu : pa.usable with
  | false => exact .inl ⟨rfl, by rw [hanswer, hu]; rfl⟩
  | true =>
    rw [hu, if_pos rfl, answerOn] at hanswer
    by_cases hnull : (geometryQuery pa s).1.walker.active = 0
    · rw [if_pos hnull] at hanswer
      exact .inr (.inl ⟨rfl, hnull, hanswer⟩)
    · rw [if_neg hnull] at hanswer
      have hactive : s.walker.active ≠ 0 := fun h => hnull (by rw [geometryQuery_idle (.inr h), h])
      have hwalked := geometryQuery_walked hu hactive
      rcases walkQuery_cases s.store pa.d pa.p hactive with ⟨sel, d, cur, -, hsel, hinside, hw⟩ | ⟨cause, sel, hw⟩
      · rw [hw] at hwalked
        have henters : Enters s.walker s.store sel d := by
          rcases hsel with henters | ⟨rfl, hd⟩
          · exact henters
          · obtain ⟨e, he, hk⟩ := hlaw hactive
            have hed : some e = some d := he.symm.trans hd
            cases hed
            exact ⟨hd, hk⟩
        have hslot : slotGet (geometryQuery pa s).1.walker.descs (geometryQuery pa s).1.walker.active = some d := by
          rw [hwalked]
          exact henters.1
        rw [hslot] at hanswer
        refine .inr (.inr ⟨rfl, hnull, by rw [hwalked]; rfl, d, ?_, hinside, hanswer⟩)
        rw [hwalked]
        exact henters
      · rw [hwalked, hw] at hnull
        exact absurd rfl hnull

end Sys2Proof.Machine

/-! SUPPORT. RouteAnswered: the clauses of the route answer. -/

namespace Sys2Proof.Machine

open Sys2Proof.Safety

/-! ### What a search finds -/

/-- A search between the car chainage and r finds a restriction in the active section or, when r lies beyond it, in the
next (R70, R71). -/
def Found (w : Walker) (c : CurveStore) (d : Descriptor) (dir : Int) (car r : Nat) (x : RestrictionSource)
    (v n : Nat) : Prop :=
  Contributes c w.active d dir car r x v n
    ∨ (Beyond d dir r ∧ ∃ d', Enters w c (forwardLink d dir) d' ∧ Contributes c (forwardLink d dir) d' dir car r x v n)

/-- A search that is not stopped finds nothing, or the lowest restriction, of equal ones the nearest, of those one of
the active section (R71). -/
theorem searchRestrictions_lowest {w : Walker} {c : CurveStore} {d : Descriptor} {dir : Int} {car r : Nat}
    (h : ¬ Beyond d dir r ∨ (forwardLink d dir ≠ 0 ∧ ∃ d', Enters w c (forwardLink d dir) d')) :
    (searchRestrictions w c d dir car r = .known none ∧ ∀ x v n, ¬ Found w c d dir car r x v n)
      ∨ ∃ z, searchRestrictions w c d dir car r = .known (some z)
        ∧ Found w c d dir car r z.source z.value z.distance
        ∧ ∀ x v n, Found w c d dir car r x v n → z.value < v ∨ (z.value = v ∧ (z.distance < n
          ∨ (z.distance = n ∧ (x.selector = w.active → z.source.selector = w.active)))) := by
  obtain ⟨there, hsearch, hthere⟩ := searchRestrictions_known (car := car) h
  have hhere := mem_sectionRestrictions_iff c w.active d dir car r
  have hfound (y : Restriction) : Found w c d dir car r y.source y.value y.distance
      ↔ y ∈ sectionRestrictions c w.active d dir car r ++ there := by
    rw [List.mem_append, hhere, hthere, Found]
  rw [hsearch]
  cases hlowest : lowest (sectionRestrictions c w.active d dir car r ++ there) with
  | none =>
    refine .inl ⟨rfl, fun x v n hx => ?_⟩
    have hmem := (hfound { value := v, source := x, distance := n }).1 hx
    rw [(lowest_eq_none_iff _).1 hlowest] at hmem
    cases hmem
  | some z =>
    obtain ⟨hfirst, hleast⟩ := lowest_append hlowest
    refine .inr ⟨z, rfl, (hfound z).2 (List.mem_append.2 (hfirst.imp_right And.left)), fun x v n hx => ?_⟩
    have hmem := (hfound { value := v, source := x, distance := n }).1 hx
    have hnotBelow := hleast _ hmem
    have hties (hv : z.value = v) (hn : z.distance = n) (hsel : x.selector = w.active) :
        z.source.selector = w.active := by
      rcases hfirst with hz | ⟨hz, hbelow⟩
      · exact contributes_selector ((hhere z).1 hz)
      · rcases List.mem_append.1 hmem with hx | hx
        · have := hbelow _ hx
          simp only [Restriction.Below] at this
          omega
        · obtain ⟨-, _, -, hcx⟩ := (hthere _).1 hx
          obtain ⟨-, _, -, hcz⟩ := (hthere z).1 hz
          rw [contributes_selector hcz, ← contributes_selector hcx, hsel]
    simp only [Restriction.Below] at hnotBelow
    by_cases hv : z.value = v
    · by_cases hn : z.distance = n
      · exact .inr ⟨hv, .inr ⟨hn, hties hv hn⟩⟩
      · exact .inr ⟨hv, .inl (by omega)⟩
    · exact .inl (by omega)

theorem enters_congr {w w' : Walker} (h : w'.descs = w.descs) (c : CurveStore) (sel : Nat) (d : Descriptor) :
    Enters w' c sel d ↔ Enters w c sel d := by
  rw [Enters, h, Enters]

theorem entryFails_congr {w w' : Walker} (h : w'.descs = w.descs) (c : CurveStore) (sel : Nat) (cause : EntryCause) :
    EntryFails w' c sel cause ↔ EntryFails w c sel cause := by
  rw [EntryFails, h, EntryFails]

section
variable {pa : PositionAnswer} {prev : Option Int} {params : Params} {w : Walker} {c : CurveStore} {d : Descriptor}
  {r : Nat} (hr : lookaheadPoint pa prev params.rateMax = r)

include hr

theorem sectionAnswer_noNext (hfar : Beyond d pa.d r) (hnext : forwardLink d pa.d = 0) :
    (sectionAnswer pa prev params w c d).outcome = .unknown .noNext := by
  rw [sectionAnswer, hr, searchRestrictions_noNext hfar hnext]
  rfl

theorem sectionAnswer_fails (hfar : Beyond d pa.d r) (hnext : forwardLink d pa.d ≠ 0) {cause : EntryCause}
    (hfails : EntryFails w c (forwardLink d pa.d) cause) :
    (sectionAnswer pa prev params w c d).outcome = .unknown (.entry cause) := by
  rw [sectionAnswer, hr, searchRestrictions_fails hfar hnext hfails]
  rfl

/-- An answer whose search is not stopped carries what the search finds (R62, R71). -/
theorem sectionAnswer_known
    (h : ¬ Beyond d pa.d r ∨ (forwardLink d pa.d ≠ 0 ∧ ∃ d', Enters w c (forwardLink d pa.d) d')) :
    (sectionAnswer pa prev params w c d).outcome = .known
      ∧ (((sectionAnswer pa prev params w c d).lowest = none ∧ (sectionAnswer pa prev params w c d).source = none
          ∧ ∀ x v n, ¬ Found w c d pa.d pa.car r x v n)
        ∨ ∃ x v n, (sectionAnswer pa prev params w c d).lowest = some v
          ∧ (sectionAnswer pa prev params w c d).source = some x ∧ Found w c d pa.d pa.car r x v n
          ∧ ∀ x' v' n', Found w c d pa.d pa.car r x' v' n' → v < v' ∨ (v = v' ∧ (n < n'
            ∨ (n = n' ∧ (x'.selector = w.active → x.selector = w.active))))) := by
  rw [sectionAnswer, hr]
  rcases searchRestrictions_lowest (car := pa.car) h with ⟨hsearch, hnone⟩ | ⟨z, hsearch, hz, hleast⟩ <;> rw [hsearch]
  · exact ⟨rfl, .inl ⟨rfl, rfl, hnone⟩⟩
  · exact ⟨rfl, .inr ⟨z.source, z.value, z.distance, rfl, rfl, hz, hleast⟩⟩

end

/-! ### Where the walker stands after a query -/

section
variable {w : Walker} {c : CurveStore} {dir : Int} {p : Nat} {d : Descriptor}
  (hd : slotGet w.descs w.active = some d)

include hd

/-- A section that holds the point is kept; the cursor stays but for a new direction or a backward point (R30, R32). -/
theorem walkQuery_inside (hactive : w.active ≠ 0) (hplace : Inside d p) :
    walkQuery c dir p w = standing c dir p w.active d (refreshedCursor dir p w) w :=
  walkQuery_of_walk (walk_inside hd _ hplace) hactive hd

/-- The walk forward, past n sections that the point lies beyond (R33, R36). -/
theorem walkQuery_forward (hplace : Beyond d dir p) {n : Nat} (hn : n ≤ 3)
    (hpath : ∀ j, 1 ≤ j → j ≤ n →
      pathAhead w dir j ≠ 0 ∧ ∃ x, Enters w c (pathAhead w dir j) x ∧ Beyond x dir p) :
    (pathAhead w dir (n + 1) = 0 → walkQuery c dir p w = loseSection .sectionLost (pathAhead w dir n) w)
      ∧ (∀ cause, pathAhead w dir (n + 1) ≠ 0 → EntryFails w c (pathAhead w dir (n + 1)) cause →
        walkQuery c dir p w = loseSection (.entry cause) (pathAhead w dir (n + 1)) w)
      ∧ ∀ x, pathAhead w dir (n + 1) ≠ 0 → Enters w c (pathAhead w dir (n + 1)) x →
        (Inside x p → walkQuery c dir p w = standing c dir p (pathAhead w dir (n + 1)) x .unplaced w)
        ∧ (Behind x dir p → walkQuery c dir p w = loseSection .sectionLost (pathAhead w dir (n + 1)) w)
        ∧ (n = 3 → Beyond x dir p → walkQuery c dir p w = loseSection .sectionLost (pathAhead w dir (n + 1)) w) := by
  obtain ⟨y, hy, hwalk⟩ := walkForward_path hd (by omega : n ≤ 4) hpath
  have hlinks : 4 - n = 3 - n + 1 := by omega
  have hquery (cur : Cursor) := walk_beyond (c := c) hd cur hplace
  rw [hlinks] at hwalk
  rw [pathAhead_succ hy]
  refine ⟨fun hend => walkQuery_lost hquery (hwalk.trans (walkForward_end hend)),
    fun cause hlink hfails => walkQuery_lost hquery (hwalk.trans (walkForward_fails hlink hfails)),
    fun x hlink henters => ⟨fun hin => ?_, fun hbehind => ?_, fun h3 hbeyond => ?_⟩⟩
  · exact walkQuery_entered hquery (hwalk.trans (walkForward_inside hlink henters hin)) hlink henters.1
  · exact walkQuery_lost hquery (hwalk.trans (walkForward_behind hlink henters hbehind))
  · subst h3
    exact walkQuery_lost hquery (hwalk.trans (walkForward_beyond hlink henters hbeyond))

/-- The walk backward, of one link (R34, R36). -/
theorem walkQuery_backward (hplace : Behind d dir p) :
    (backwardLink d dir = 0 → walkQuery c dir p w = loseSection .sectionLost w.active w)
      ∧ (∀ cause, backwardLink d dir ≠ 0 → EntryFails w c (backwardLink d dir) cause →
        walkQuery c dir p w = loseSection (.entry cause) (backwardLink d dir) w)
      ∧ ∀ x, backwardLink d dir ≠ 0 → Enters w c (backwardLink d dir) x →
        (Inside x p → walkQuery c dir p w = standing c dir p (backwardLink d dir) x .unplaced w)
        ∧ (¬ Inside x p → walkQuery c dir p w = loseSection .sectionLost (backwardLink d dir) w) := by
  have hquery (cur : Cursor) := walk_behind (c := c) hd cur hplace
  refine ⟨fun hend => walkQuery_lost hquery (walkBackward_end hend),
    fun cause hlink hfails => walkQuery_lost hquery (walkBackward_fails hlink hfails),
    fun x hlink henters => ⟨fun hin => ?_, fun hout => ?_⟩⟩
  · exact walkQuery_entered hquery (walkBackward_inside hlink henters hin) hlink henters.1
  · exact walkQuery_lost hquery (walkBackward_outside hlink henters hout)

end

/-- Settles O59: the walk by where p lies, the answer by the three forms a query under the law of R38 can answer. -/
theorem routeAnswered : Obligations.RouteAnswered := by
  intro pa s hlaw t ra w c heading back moved stands lost r
  have hstands {sel : Nat} {d : Descriptor} {cur : Cursor} (h : t.walker = standing c pa.d pa.p sel d cur w) :
      stands sel d cur := h
  have hmoved : cursorStale w pa.d pa.p = true ↔ moved := cursorStale_iff w pa.d pa.p
  have hr : lookaheadPoint pa s.mode.prevCommand s.params.rateMax = r := lookaheadPoint_eq ..
  have hforms : (pa.usable = false ∧ ra = unavailableAnswer s.params)
      ∨ (pa.usable = true ∧ t.walker.active = 0 ∧ ra = noSectionAnswer s.params)
      ∨ (pa.usable = true ∧ t.walker.active ≠ 0 ∧ t.walker.descs = w.descs ∧ ∃ d, Enters w c t.walker.active d
        ∧ Inside d pa.p ∧ ra = sectionAnswer pa s.mode.prevCommand s.params t.walker c d) := geometryQuery_cases pa hlaw
  have hanswer : ∃ form active kind res, ra = routeAnswer s.params form active kind res := by
    rcases hforms with ⟨-, h⟩ | ⟨-, -, h⟩ | ⟨-, -, -, d, -, -, h⟩ <;> exact ⟨_, _, _, _, h⟩
  refine ⟨rfl, fun hu => ?_, fun hu hnull => geometryQuery_idle (.inr hnull), fun d hu hactive hd => ?_,
    fun hu hnull => ?_, fun hform => ?_, fun hu hactive => ?_, ?_, ?_, rfl, rfl, rfl, rfl,
    noteAnswer_failures ra s.look⟩
  · refine ⟨geometryQuery_idle (.inl hu), ?_⟩
    rcases hforms with ⟨-, hra⟩ | ⟨hyes, -⟩ | ⟨hyes, -⟩
    · rw [hra]
      exact ⟨rfl, rfl⟩
    all_goals rw [hu] at hyes; cases hyes
  · have hwalked : t.walker = walkQuery c pa.d pa.p w := geometryQuery_walked hu hactive
    refine ⟨fun hplace => ?_, fun hplace n hn hpath => ?_, fun hplace => ?_⟩
    · have hkept := hwalked.trans (walkQuery_inside (c := c) (dir := pa.d) hd hactive hplace)
      constructor
      · intro hm
        rw [refreshedCursor, if_pos (hmoved.2 hm)] at hkept
        exact hstands hkept
      · intro hm
        rw [refreshedCursor, if_neg (mt hmoved.1 hm)] at hkept
        exact hstands hkept
    · obtain ⟨hend, hfails, henters⟩ := walkQuery_forward hd hplace hn hpath
      refine ⟨fun h0 => hwalked.trans (hend h0), fun cause h0 hf => hwalked.trans (hfails cause h0 hf),
        fun x h0 hx => ?_⟩
      obtain ⟨hin, hbehind, hbeyond⟩ := henters x h0 hx
      exact ⟨fun h => hstands (hwalked.trans (hin h)), fun h => hwalked.trans (hbehind h),
        fun h3 h => hwalked.trans (hbeyond h3 h)⟩
    · obtain ⟨hend, hfails, henters⟩ := walkQuery_backward (c := c) hd hplace
      refine ⟨fun h0 => hwalked.trans (hend h0), fun cause h0 hf => hwalked.trans (hfails cause h0 hf),
        fun x h0 hx => ?_⟩
      obtain ⟨hin, hout⟩ := henters x h0 hx
      exact ⟨fun h => hstands (hwalked.trans (hin h)), fun h => hwalked.trans (hout h)⟩
  · rcases hforms with ⟨hno, -⟩ | ⟨-, -, hra⟩ | ⟨-, hsome, -⟩
    · rw [hu] at hno
      cases hno
    · rw [hra]
      exact ⟨rfl, rfl⟩
    · exact absurd hnull hsome
  · rcases hforms with ⟨-, hra⟩ | ⟨-, -, hra⟩ | ⟨-, -, -, d, -, -, hra⟩
    · rw [hra]
      exact ⟨rfl, rfl⟩
    · rw [hra]
      exact ⟨rfl, rfl⟩
    · rw [hra] at hform
      rcases hform with hform | hform <;> cases hform
  · rcases hforms with ⟨hno, -⟩ | ⟨-, hnull, -⟩ | ⟨-, -, hdescs, d, henters, hinside, hra⟩
    · rw [hu] at hno
      cases hno
    · exact absurd hnull hactive
    · rw [hra]
      refine ⟨d, henters.1, henters.2, hinside, rfl, rfl, rfl, ?_⟩
      intro next far found
      have hsame (sel : Nat) (x : Descriptor) : Enters t.walker c sel x ↔ Enters w c sel x :=
        enters_congr hdescs c sel x
      have hfound (x : RestrictionSource) (v n : Nat) : Found t.walker c d pa.d pa.car r x v n ↔ found x v n := by
        simp only [Found, hsame]
        exact Iff.rfl
      refine ⟨fun hfar h0 => sectionAnswer_noNext hr hfar h0,
        fun cause hfar h0 hfails => sectionAnswer_fails hr hfar h0 ((entryFails_congr hdescs ..).2 hfails),
        fun hknown => ?_⟩
      have h := sectionAnswer_known (prev := s.mode.prevCommand) (w := t.walker) (c := c) (d := d) hr
        (by simp only [hsame]; exact hknown)
      simp only [hfound] at h
      exact h
  · obtain ⟨form, active, kind, res, hra⟩ := hanswer
    rw [hra]
    exact routeAnswer_unknown _ _ _ _ _
  · obtain ⟨form, active, kind, res, hra⟩ := hanswer
    rw [hra]
    exact routeAnswer_lEff ..

end Sys2Proof.Machine

/-! SUPPORT. What a command can do to the slots of a bank (R44, R46, R53, R58). -/

namespace Sys2Proof.Machine

open Sys2Proof.Safety

/-! ### A command touches the curve store in one block -/

/-- The store of t is that of s, or what the owner of one request of the catalogue makes of it. -/
def StoreTaken (s t : State) : Prop :=
  t.store = s.store ∨ ∃ row ∈ catalogue, ∃ r x, t.store = (row.take r x).1.store ∧ x.store = s.store

theorem StoreTaken.congr {s s' t t' : State} (h : StoreTaken s' t') (hs : s'.store = s.store) (ht : t.store = t'.store) :
    StoreTaken s t := by
  unfold StoreTaken at h ⊢
  rwa [ht, ← hs]

theorem storeTaken_takeRequest {row : RequestRow} (hm : row ∈ catalogue) (p : Port) (h : Header) (args : List Byte)
    (s : State) : StoreTaken s (takeRequest row p h args s) := by
  unfold takeRequest
  dsimp only
  split
  · exact .inl (sendReply_store ..)
  · split
    · next heq => exact .inr ⟨row, hm, _, _, (sendReply_store ..).trans (congrArg (·.1.store) heq).symm, by rfl⟩
    · next heq => exact .inr ⟨row, hm, _, _, (congrArg (·.1.store) heq).symm, by rfl⟩

theorem takeUnknown_store (p : Port) (h : Header) (payload : List Byte) (s : State) :
    (takeUnknown p h payload s).store = s.store := by
  unfold takeUnknown
  dsimp only
  split <;> exact sendReply_store ..

theorem storeTaken_takePayload (p : Port) (h : Header) (payload : List Byte) (s : State) :
    StoreTaken s (takePayload p h payload s) := by
  unfold takePayload
  split
  · exact .inl (takeUnknown_store ..)
  · split
    · next row hf => exact storeTaken_takeRequest (List.mem_of_find?_eq_some hf) ..
    · exact .inl (takeUnknown_store ..)

theorem storeTaken_receiveRequest {taking : State → State} (ht : ∀ s, StoreTaken s (taking s)) (p : Port) (h : Header)
    (payload : List Byte) (s : State) : StoreTaken s (receiveRequest taking p h payload s) := by
  have htaken : StoreTaken s (if takesRequest (countReceived p s) h.dest then taking (countReceived p s)
      else countReceived p s) := by
    split
    · exact (ht (countReceived p s)).congr (countReceived_store ..) rfl
    · exact .inl (countReceived_store ..)
  unfold receiveRequest
  dsimp only
  split
  · exact .inl (countReceived_store p s)
  · split
    · exact htaken
    · exact htaken.congr rfl (forward_store ..)

/-- Of all commands but DEVICE_RESET only requests and VERIFY_COMPLETION touch the curve store. -/
theorem exec_store_cases {c : Instr} {s t : State} (hreset : ∀ e, c ≠ .deviceReset e) (he : exec c s = .next t) :
    StoreTaken s t ∨ t.store = (verifyCompletes s).store := by
  have hblock {f : State → State} (hf : StoreTaken s (f s) ∨ (f s).store = (verifyCompletes s).store)
      (hu : unlessHeld f s = .next t) : StoreTaken s t ∨ t.store = (verifyCompletes s).store :=
    of_unlessHeld (P := fun t => StoreTaken s t ∨ t.store = (verifyCompletes s).store) (.inl (.inl rfl)) hu hf
  have hroute {f : State → State} (hf : route (f s) = route s) (hu : unlessHeld f s = .next t) :
      StoreTaken s t ∨ t.store = (verifyCompletes s).store := hblock (.inl (.inl (congrArg Prod.snd hf))) hu
  have hrequest {taking : State → State} {p : Port} {h : Header} {payload : List Byte}
      (ht : ∀ s, StoreTaken s (taking s)) (hu : unlessHeld (receiveRequest taking p h payload) s = .next t) :
      StoreTaken s t ∨ t.store = (verifyCompletes s).store := hblock (.inl (storeTaken_receiveRequest ht ..)) hu
  cases c
  case deviceReset e => exact absurd rfl (hreset e)
  case odometry => refine hroute ?_ he; exact route_takeOdometry ..
  case odoLost => exact hroute (route_watchdogExpiry s) he
  case fix => exact hroute (route_takeFix ..) he
  case sample => refine hroute ?_ he; exact route_takeSample ..
  case sense => exact hroute (route_senseFrame ..) he
  case localFrameDiscard => cases he; exact .inl (.inl rfl)
  case driveAck => exact hroute (route_receiveAck ..) he
  case stepExpiry => exact hblock (.inl (.inl (congrArg Prod.snd (route_concludeStep _ _ _ (stepReactive _ _).1)))) he
  case verifyCompletion => exact hblock (.inr rfl) he
  case transmissionCompletion => exact hroute rfl he
  case checkError => exact hroute rfl he
  case frameForward p h body =>
    cases body
    · exact hrequest (storeTaken_takePayload _ _ _) he
    · exact hroute rfl he
  case trailDrop => exact hrequest (storeTaken_takePayload _ _ _) he
  case requestUnknown => exact hrequest (fun s => .inl (takeUnknown_store _ _ _ s)) he
  all_goals exact hrequest (storeTaken_takeRequest (by simp [catalogue]) _ _ _) he

/-! ### The slots of a bank that is not CLOSED -/

/-- From c to c' the slots of every bank that is OPENING, OPEN or FAILED in c stand. -/
def SlotsStand (c c' : CurveStore) : Prop :=
  ∀ b, (bankOf c b).state ≠ .closed → (bankOf c' b).slots = (bankOf c b).slots

theorem SlotsStand.refl (c : CurveStore) : SlotsStand c c := fun _ _ => rfl

theorem SlotsStand.of_slots {c c' : CurveStore} (h : ∀ b, (bankOf c' b).slots = (bankOf c b).slots) : SlotsStand c c' :=
  fun b _ => h b

theorem SlotsStand.then {c c' c'' : CurveStore} (h : SlotsStand c c')
    (h2 : ∀ b, (bankOf c'' b).slots = (bankOf c' b).slots) : SlotsStand c c'' := fun b hb => (h2 b).trans (h b hb)

theorem BankReplaced.slots {b : Fin 4} {x : Bank} {c c' : CurveStore} (hc : BankReplaced b x c c')
    (h : x.slots = (bankOf c b).slots) (b' : Fin 4) : (bankOf c' b').slots = (bankOf c b').slots := by
  rw [hc.bank]
  split
  · next heq => rw [heq, h]
  · rfl

/-- A bank that was CLOSED may be replaced by any. -/
theorem BankReplaced.slotsStand {b : Fin 4} {x : Bank} {c c' : CurveStore} (hc : BankReplaced b x c c')
    (h : (bankOf c b).state = .closed) : SlotsStand c c' := by
  intro b' hb'
  have hne : b' ≠ b := fun heq => hb' (heq ▸ h)
  rw [hc.bank, if_neg hne]

/-- An open asked for leaves every slot as it was, whether it starts a verification or is refused (R48, R51). -/
theorem openAfter_slots (asked : Bool) (b : Fin 4) (n now : Nat) (c : CurveStore) (b' : Fin 4) :
    (bankOf (openAfter asked b n now c).1 b').slots = (bankOf c b').slots := by
  unfold openAfter
  split
  · split
    · exact (bankReplaced_startVerification c b n now).slots rfl b'
    · rfl
    · rfl
  · rfl

/-- The owner of a request lets the slots of every bank stand that is not CLOSED, while the staged burst's bank is. -/
def OwnerLetsStand (take : Request → State → State × Answer) : Prop :=
  ∀ r s, StagedLaw s.store → SlotsStand s.store (take r s).1.store

/-- An owner that leaves the store alone. -/
theorem OwnerLetsStand.of_store {take : Request → State → State × Answer}
    (h : ∀ r s, (take r s).1.store = s.store) : OwnerLetsStand take :=
  fun r s _ => .of_slots fun b => by rw [h r s]

theorem OwnerSpares.letsStand {take : Request → State → State × Answer} (h : OwnerSpares take) : OwnerLetsStand take :=
  .of_store fun r s => congrArg Prod.snd (h r s)

theorem ownerLetsStand_descWrite : OwnerLetsStand takeDescWrite := .of_store fun r s => by
  unfold takeDescWrite
  dsimp only
  (repeat' split) <;> rfl

theorem ownerLetsStand_descClear : OwnerLetsStand takeDescClear := .of_store fun r s => by
  unfold takeDescClear
  dsimp only
  (repeat' split) <;> rfl

theorem ownerLetsStand_sectionSelect : OwnerLetsStand takeSectionSelect := .of_store fun r s => by
  unfold takeSectionSelect
  dsimp only
  (repeat' split) <;> rfl

/-- A LOAD HEAD writes only a CLOSED bank (R44, R45). -/
theorem ownerLetsStand_loadHead : OwnerLetsStand takeLoadHead := by
  intro r s _
  unfold takeLoadHead
  split_ifs
  · exact .refl _
  · exact .refl _
  split
  · exact .refl _
  · next b _ =>
    dsimp only
    unfold headStore
    split_ifs with _ hclosed
    · exact .refl _
    · exact .refl _
    · exact .refl _
    unfold actHead
    dsimp only
    split
    · exact .of_slots fun b' => by rw [← bankOf_abandonStaged s.store b']; rfl
    · have hwrite := (bankReplaced_writeBurst (abandonStaged s.store) b
        (slotOfShort (arg8 r.args 1) ((argByte r.args 2).extractLsb' 0 3).toNat) (argPositions r.args 6)).slotsStand
        (by rw [bankOf_abandonStaged]; exact not_not.1 hclosed)
      intro b' hb'
      have hbank := bankOf_abandonStaged s.store b'
      exact (openAfter_slots ..).trans ((hwrite b' (by rwa [hbank])).trans (by rw [hbank]))

/-- A LOAD TAIL writes only the staged burst's bank (R46, R47). -/
theorem ownerLetsStand_loadTail : OwnerLetsStand takeLoadTail := by
  intro r s hs
  unfold takeLoadTail
  split_ifs
  · exact .refl _
  · exact .refl _
  split
  · exact .refl _
  · next x hx =>
    split
    · exact ((bankReplaced_writeBurst ..).slotsStand (hs x hx)).then fun _ => openAfter_slots ..
    · exact .refl _

theorem ownerLetsStand_bankOpen : OwnerLetsStand takeBankOpen := by
  intro r s _
  unfold takeBankOpen
  split
  · exact .refl _
  split
  · exact .refl _
  split
  · exact .refl _
  · exact .of_slots ((bankReplaced_startVerification ..).slots rfl)

theorem ownerLetsStand_bankClose : OwnerLetsStand takeBankClose := by
  intro r s _
  unfold takeBankClose
  split
  · exact .refl _
  split
  · exact .refl _
  split
  · exact .refl _
  · split
    · exact .refl _
    · exact .of_slots ((bankReplaced_closeBank ..).slots rfl)
  · exact .of_slots ((bankReplaced_closeBank ..).slots rfl)
  · rw [sendReport_store]
    exact .of_slots ((bankReplaced_abandonVerification ..).slots rfl)

/-- A BANK ERASE erases only a CLOSED bank (R58). -/
theorem ownerLetsStand_bankErase : OwnerLetsStand takeBankErase := by
  intro r s _
  unfold takeBankErase
  split_ifs
  · exact .refl _
  · exact .refl _
  split
  · exact .refl _
  split_ifs with hclosed
  · exact .refl _
  · exact .refl _
  · exact (bankReplaced_eraseBank ..).slotsStand (not_not.1 hclosed)

/-- Of the masks that of LOAD drops a staged burst, and no slot (R61, R166). -/
theorem maskEffects_bank (before after : Features) (s : State) (b : Fin 4) :
    bankOf (maskEffects before after s).store b = bankOf s.store b := by
  have hpred : (if after.predictive && !before.predictive then maskPredictive s else s).store = s.store := by
    split
    · exact congrArg Prod.snd (route_changeMode ..)
    · rfl
  have haudit (x : State) : (if after.audit && !before.audit then maskAudit x else x).store = x.store := by
    split <;> rfl
  have hload (x : State) :
      bankOf (if after.load && !before.load then maskLoad x else x).store b = bankOf x.store b := by
    split
    · exact bankOf_abandonStaged ..
    · rfl
  unfold maskEffects
  dsimp only
  rw [hload, haudit, hpred]

theorem ownerLetsStand_featureMask : OwnerLetsStand takeFeatureMask := by
  intro r s _
  unfold takeFeatureMask
  split
  · exact .refl _
  · exact .of_slots fun b => congrArg Bank.slots (maskEffects_bank ..)

theorem ownerLetsStand_restart : OwnerLetsStand takeRestart := by
  intro r s _
  have hmode (x : State) : route (restartMode x) = route x := (route_changeMode ..).trans (route_answerHold ..)
  have hstore : (takeRestart r s).1.store = { s.store with staged := none } := congrArg Prod.snd (hmode _)
  rw [hstore]
  exact .of_slots fun _ => rfl

theorem ownerLetsStand_catalogue : ∀ row ∈ catalogue, OwnerLetsStand row.take := by
  simp only [catalogue, List.forall_mem_cons]
  exact ⟨ownerSpares_statusRead.letsStand, ownerSpares_paramSet.letsStand, ownerSpares_paramRead.letsStand,
    ownerSpares_modeSet.letsStand, ownerLetsStand_descWrite, ownerLetsStand_descClear, ownerSpares_descRead.letsStand,
    ownerLetsStand_loadHead, ownerLetsStand_loadTail, ownerLetsStand_bankOpen, ownerLetsStand_bankClose,
    ownerLetsStand_bankErase, ownerSpares_recordRead.letsStand, ownerSpares_strokeLoad.letsStand,
    fun _ _ _ => .refl _, ownerLetsStand_sectionSelect, ownerSpares_hold.letsStand, ownerSpares_release.letsStand,
    ownerSpares_resume.letsStand, ownerSpares_auditArm.letsStand, ownerLetsStand_featureMask, ownerLetsStand_restart,
    nofun⟩

theorem verifyCompletes_slots (s : State) (b : Fin 4) :
    (bankOf (verifyCompletes s).store b).slots = (bankOf s.store b).slots := by
  unfold verifyCompletes
  split
  · rfl
  · next x _ =>
    obtain ⟨bk, hc, -, -, hslots, -⟩ := completed_replaced x s.store
    rw [sendReport_store]
    exact hc.slots hslots b

/-- Settles O18: the one block of a command that touches the store lets these slots stand. -/
theorem verifiedSlotsStand : Obligations.VerifiedSlotsStand := by
  intro c s t b hs he hreset hb
  rcases exec_store_cases hreset he with (hkept | ⟨row, hm, r, x, ht, hx⟩) | hverify
  · rw [hkept]
  · rw [← hx] at hs hb ⊢
    rw [ht]
    exact ownerLetsStand_catalogue row hm r x hs b hb
  · rw [hverify]
    exact verifyCompletes_slots s b

end Sys2Proof.Machine

/-! SUPPORT. The verification of a bank (R52 to R55). -/

namespace Sys2Proof.Machine

open Sys2Proof.Safety

/-! ### The first failing record (R52) -/

/-- The end of the record before an index, where there is one (R52 check 5). -/
def endBefore (m : List (Nat × CurveRecord)) : Nat → Option Nat
  | 0 => none
  | i + 1 => (slotGet m i).map recordEnd

theorem exists_endBefore_iff (m : List (Nat × CurveRecord)) (i : Nat) (P : Nat → Prop) :
    (∃ e, endBefore m i = some e ∧ P e) ↔ ∃ q, 1 ≤ i ∧ slotGet m (i - 1) = some q ∧ P (recordEnd q) := by
  cases i with
  | zero => simp [endBefore]
  | succ i => simp [endBefore]

/-- The first check that record i fails, by itself and against the record before it (R52). -/
def faultAt (m : List (Nat × CurveRecord)) (i : Nat) : Option VerifyReason := recordFault (slotGet m i) (endBefore m i)

theorem firstFault_succ (m : List (Nat × CurveRecord)) (i n : Nat) :
    firstFault m i (n + 1) (endBefore m i) =
      match faultAt m i with
      | some reason => some (i, reason)
      | none => firstFault m (i + 1) n (endBefore m (i + 1)) := rfl

theorem firstFault_eq_none_iff (m : List (Nat × CurveRecord)) (i n : Nat) :
    firstFault m i n (endBefore m i) = none ↔ ∀ j, i ≤ j → j < i + n → faultAt m j = none := by
  induction n generalizing i with
  | zero => exact ⟨fun _ j h1 h2 => by omega, fun _ => rfl⟩
  | succ n ih =>
    rw [firstFault_succ]
    cases hi : faultAt m i with
    | some reason =>
      refine ⟨nofun, fun h => ?_⟩
      rw [h i (Nat.le_refl i) (by omega)] at hi
      cases hi
    | none =>
      refine (ih (i + 1)).trans ⟨fun h j h1 h2 => ?_, fun h j h1 h2 => h j (by omega) (by omega)⟩
      rcases Nat.eq_or_lt_of_le h1 with rfl | h1
      · exact hi
      · exact h j h1 (by omega)

theorem firstFault_eq_some_iff (m : List (Nat × CurveRecord)) (i n j : Nat) (reason : VerifyReason) :
    firstFault m i n (endBefore m i) = some (j, reason) ↔
      i ≤ j ∧ j < i + n ∧ faultAt m j = some reason ∧ ∀ k, i ≤ k → k < j → faultAt m k = none := by
  induction n generalizing i with
  | zero => exact ⟨nofun, fun ⟨h1, h2, _⟩ => by omega⟩
  | succ n ih =>
    rw [firstFault_succ]
    cases hi : faultAt m i with
    | some first =>
      constructor
      · rintro ⟨⟩
        exact ⟨Nat.le_refl _, by omega, hi, fun k h1 h2 => by omega⟩
      · rintro ⟨h1, -, hj, hbefore⟩
        rcases Nat.eq_or_lt_of_le h1 with rfl | h1
        · rw [hi] at hj
          cases hj
          rfl
        · have := hbefore i (Nat.le_refl i) h1
          rw [hi] at this
          cases this
    | none =>
      refine (ih (i + 1)).trans ⟨fun ⟨h1, h2, hj, h⟩ => ⟨by omega, by omega, hj, fun k h3 h4 => ?_⟩,
        fun ⟨h1, h2, hj, h⟩ => ⟨?_, by omega, hj, fun k h3 h4 => h k (by omega) h4⟩⟩
      · rcases Nat.eq_or_lt_of_le h3 with rfl | h3
        · exact hi
        · exact h k h3 h4
      · rcases Nat.eq_or_lt_of_le h1 with rfl | h1
        · rw [hi] at hj
          cases hj
        · exact h1

theorem verifyRecords_eq_none_iff (m : List (Nat × CurveRecord)) (n : Nat) :
    verifyRecords m n = none ↔ ∀ i < n, faultAt m i = none :=
  (firstFault_eq_none_iff m 0 n).trans (by simp)

theorem verifyRecords_eq_some_iff (m : List (Nat × CurveRecord)) (n i : Nat) (reason : VerifyReason) :
    verifyRecords m n = some (i, reason) ↔ i < n ∧ faultAt m i = some reason ∧ ∀ j < i, faultAt m j = none :=
  (firstFault_eq_some_iff m 0 n i reason).trans (by simp)

/-- The checks of a written record in their order (R52). -/
theorem recordFault_eq_some_iff (r : CurveRecord) (prevEnd : Option Nat) (reason : VerifyReason) :
    recordFault (some r) prevEnd = some reason ↔
      if 20000 < r.kappa.natAbs then reason = .curvature
      else if 180 < r.cant.natAbs then reason = .cant
      else if r.cant ≠ 0 ∧ r.cant.sign ≠ r.kappa.sign then reason = .cantSign
      else ∃ e, prevEnd = some e ∧ r.start < e ∧ reason = .overlap := by
  dsimp only [recordFault]
  split_ifs
  · simp [eq_comm]
  · simp [eq_comm]
  · simp [eq_comm]
  · cases prevEnd <;> simp [eq_comm]

/-- Settles O39: a record fails by a check exactly when `faultAt` names that check. -/
theorem verifierFindsFirstFault : Obligations.VerifierFindsFirstFault := by
  intro m n fails
  have hfails (i : Nat) (reason : VerifyReason) : fails i reason ↔ faultAt m i = some reason := by
    dsimp only [fails, faultAt]
    cases slotGet m i with
    | none => simp [recordFault, eq_comm]
    | some r =>
      simp only [recordFault_eq_some_iff, exists_endBefore_iff]
      exact Iff.rfl
  have hpasses (i : Nat) : (∀ reason, ¬ fails i reason) ↔ faultAt m i = none := by
    simp only [hfails, Option.eq_none_iff_forall_ne_some, ne_eq]
  simp only [verifyRecords_eq_none_iff, verifyRecords_eq_some_iff, ← hfails, ← hpasses, implies_true, and_self]

/-! ### The completion (R53 to R55) -/

/-- The verification of a bank completes: the verifier is idle, and the bank's outcome is reported (R54, R55). -/
theorem verifyCompletes_busy {s : State} {x : Verification} (h : s.store.verifier = some x) :
    verifyCompletes s = sendReport (.bank x.bank (completed x s.store).2) { s with store := (completed x s.store).1 } := by
  unfold verifyCompletes
  split
  · next hidle => rw [hidle] at h; cases h
  · next y hy => rw [hy] at h; cases h; rfl

/-- Settles O38: the completion of the busy verifier's bank, by the outcome of its records. -/
theorem Verification.verifyCompletes : Obligations.VerifyCompletes := by
  intro x s hheld hbusy bk outcome
  have hexec : exec .verifyCompletion s =
      .next (sendReport (.bank x.bank (completed x s.store).2) { s with store := (completed x s.store).1 }) :=
    (unlessHeld_awake hheld _).trans (congrArg _ (verifyCompletes_busy hbusy))
  refine ⟨fun hpass => ?_, fun i reason hfail => ?_⟩
  · simp only [hexec, completed, bk, outcome] at hpass ⊢
    rw [hpass]
  · simp only [hexec, completed, bk, outcome] at hfail ⊢
    rw [hfail]

end Sys2Proof.Machine

/-! SUPPORT. The requests of the curve store (R44 to R51, R57 to R59). -/

namespace Sys2Proof.Machine

open Sys2Proof.Safety

/-! ### The bank a request names, and the burst staged for it -/

theorem bankNumber_val (b : Fin 4) : bankNumber b.val = some b := dif_pos b.isLt

theorem bankNumber_of_eq {n : Nat} {b : Fin 4} (h : n = b.val) : bankNumber n = some b := h ▸ bankNumber_val b

theorem bankNumber_of_gt {n : Nat} (h : 3 < n) : bankNumber n = none := dif_neg (by omega)

theorem le_of_bankNumber {n : Nat} {b : Fin 4} (h : bankNumber n = some b) : n ≤ 3 := by
  by_contra hgt
  rw [bankNumber_of_gt (Nat.lt_of_not_le hgt)] at h
  cases h

theorem stagedFor_iff (c : CurveStore) (b : Fin 4) : stagedFor c b = true ↔ ∃ x, c.staged = some x ∧ x.bank = b := by
  unfold stagedFor
  split
  · next x hx => simp [hx]
  · next hx => simp [hx]

/-! ### Opening (R50, R51) -/

section
variable {b : Fin 4} {n : Nat} {c : CurveStore}

theorem openRefusal_count (h : n < 1 ∨ 512 < n) : openRefusal b n c = some .badArg := by
  simp only [openRefusal, if_pos h]

variable (hn : ¬ (n < 1 ∨ 512 < n))

include hn

theorem openRefusal_state (h : (bankOf c b).state ≠ .closed ∧ (bankOf c b).state ≠ .failed) :
    openRefusal b n c = some .badArg := by
  simp only [openRefusal, if_neg hn, if_pos h]

variable (hstate : ¬ ((bankOf c b).state ≠ .closed ∧ (bankOf c b).state ≠ .failed))

include hstate

theorem openRefusal_opening (h : ∃ b', (bankOf c b').state = .opening) : openRefusal b n c = some .busy := by
  simp only [openRefusal, if_neg hn, if_neg hstate, if_pos ((someOpening_iff c).2 h)]

variable (hidle : ¬ ∃ b', (bankOf c b').state = .opening)

include hidle

theorem openRefusal_staged (h : ∃ x, c.staged = some x ∧ x.bank = b) : openRefusal b n c = some .pendingLoad := by
  simp only [openRefusal, if_neg hn, if_neg hstate, if_neg (mt (someOpening_iff c).1 hidle),
    if_pos ((stagedFor_iff c b).2 h)]

theorem openRefusal_none (h : ¬ ∃ x, c.staged = some x ∧ x.bank = b) : openRefusal b n c = none := by
  simp only [openRefusal, if_neg hn, if_neg hstate, if_neg (mt (someOpening_iff c).1 hidle),
    if_neg (mt (stagedFor_iff c b).1 h)]

end

/-- For a CLOSED bank without a staged burst the judgement of OPEN-AFTER is that of R48. -/
theorem openAfter_eq_openJudged {asked : Bool} {b : Fin 4} {n now : Nat} {c : CurveStore}
    (hclosed : (bankOf c b).state = .closed) (hstaged : c.staged = none) :
    openAfter asked b n now c = openJudged asked b n now c := by
  have hstate : ¬ ((bankOf c b).state ≠ .closed ∧ (bankOf c b).state ≠ .failed) := by simp [hclosed]
  have hnone : ¬ ∃ x, c.staged = some x ∧ x.bank = b := by simp [hstaged]
  cases asked with
  | false => rfl
  | true =>
    simp only [openAfter, openJudged, if_true, Bool.true_eq_false, if_false]
    by_cases hn : n < 1 ∨ 512 < n
    · simp only [openRefusal_count hn, if_pos hn]
    by_cases hopening : ∃ b', (bankOf c b').state = .opening
    · simp only [openRefusal_opening hn hstate hopening, if_neg hn, if_pos hopening]
    · simp only [openRefusal_none hn hstate hopening hnone, if_neg hn, if_neg hopening]
      rfl

/-! ### Bursts (R40, R43, R45, R47) -/

theorem storedRecord_eq (c : CarriedRecord) : storedRecord c = recordAsCarried c := by
  have hmin (k n : Nat) : min k n = if k < n then k else n := by split <;> omega
  simp only [storedRecord, recordAsCarried, hmin, Nat.reducePow]

theorem storedRecord_comp_of_lower {c : CarriedRecord} (h : compLower c = true) : (storedRecord c).comp = some 100 := by
  simp only [compLower, Bool.and_eq_true, decide_eq_true_eq] at h
  simp only [storedRecord, h.1, if_true, Nat.min_eq_left (Nat.le_of_lt h.2)]

theorem storedRecord_limit_of_lower {c : CarriedRecord} (h : limitLower c = true) : (storedRecord c).limit = some 800 := by
  simp only [limitLower, Bool.and_eq_true, decide_eq_true_eq] at h
  simp only [storedRecord, h.1, if_true, Nat.min_eq_left (Nat.le_of_lt h.2)]

/-- A position has values applied exactly when R40 stores one of its values lower than carried. -/
theorem positionApplied_eq (k : Nat) (c : CarriedRecord) :
    positionApplied k c = if storedLower c then some (appliedValues k c) else none := by
  have hcomp : (if compLower c then some 100 else none) = (appliedValues k c).comp := by
    dsimp only [appliedValues]
    split
    · next h => rw [storedRecord_comp_of_lower h]
    · rfl
  have hlimit : (if limitLower c then some 800 else none) = (appliedValues k c).limit := by
    dsimp only [appliedValues]
    split
    · next h => rw [storedRecord_limit_of_lower h]
    · rfl
  change (if compLower c || limitLower c then
    some (AppliedValues.mk k (if compLower c then some 100 else none) (if limitLower c then some 800 else none))
    else none) = _
  rw [hcomp, hlimit]
  rfl

theorem appliedFrom_eq (ps : List (Option CarriedRecord)) (k : Nat) :
    appliedFrom k ps = (ps.zipIdx k).filterMap fun x => x.1.bind (positionApplied x.2) := by
  induction ps generalizing k with
  | nil => rfl
  | cons p ps ih =>
    cases p with
    | none => simp [appliedFrom, ih]
    | some c =>
      cases h : storedLower c with
      | true => simp [appliedFrom, positionApplied_eq, h, ih]
      | false => simp [appliedFrom, positionApplied_eq, h, ih]

theorem appliedFrom_zero (ps : List (Option CarriedRecord)) : appliedFrom 0 ps = burstApplied ps := appliedFrom_eq ps 0

theorem writeResult_eq (ps : List (Option CarriedRecord)) : writeResult ps = burstResult ps := by
  have hlower : anyLower ps = ps.any fun p => p.any storedLower :=
    congrArg ps.any (funext fun p => by cases p <;> rfl)
  rw [writeResult, hlower]
  rfl

/-- Writing positions leaves a slot that none of them names. -/
theorem slotGet_writePositions_other {slotOf : Nat → Nat} {i : Nat} (ps : List (Option CarriedRecord)) (k : Nat)
    (m : List (Nat × CurveRecord)) (h : ∀ (j : Nat) (c : CarriedRecord), ps[j]? = some (some c) → i ≠ slotOf (k + j)) :
    slotGet (writePositions slotOf k ps m) i = slotGet m i := by
  induction ps generalizing k m with
  | nil => rfl
  | cons p ps ih =>
    have hrest : ∀ (j : Nat) (c : CarriedRecord), ps[j]? = some (some c) → i ≠ slotOf (k + 1 + j) := fun j c hj => by
      rw [Nat.add_assoc, Nat.add_comm 1 j]
      exact h (j + 1) c hj
    cases p with
    | none => exact ih (k + 1) m hrest
    | some c => exact (ih (k + 1) _ hrest).trans (slotGet_slotSet_other _ _ (h 0 c rfl))

/-- Positions that name distinct slots are each stored in its own (R40). -/
theorem slotGet_writePositions_same {slotOf : Nat → Nat} (ps : List (Option CarriedRecord)) (k : Nat)
    (m : List (Nat × CurveRecord))
    (hinj : ∀ i j, i < ps.length → j < ps.length → slotOf (k + i) = slotOf (k + j) → i = j)
    {j : Nat} {c : CarriedRecord} (hj : ps[j]? = some (some c)) :
    slotGet (writePositions slotOf k ps m) (slotOf (k + j)) = some (storedRecord c) := by
  induction ps generalizing k m j with
  | nil => cases hj
  | cons p ps ih =>
    have hrest : ∀ i j, i < ps.length → j < ps.length → slotOf (k + 1 + i) = slotOf (k + 1 + j) → i = j := by
      intro i j hi hj h
      have := hinj (i + 1) (j + 1) (Nat.succ_lt_succ hi) (Nat.succ_lt_succ hj)
        (by rwa [Nat.add_comm i, Nat.add_comm j, ← Nat.add_assoc, ← Nat.add_assoc])
      omega
    cases j with
    | zero =>
      cases hj
      refine (slotGet_writePositions_other ps (k + 1) _ fun i d hi h => ?_).trans (slotGet_slotSet_same ..)
      have hlt : i < ps.length := (List.getElem?_eq_some_iff.1 hi).1
      have := hinj 0 (i + 1) (Nat.succ_pos _) (Nat.succ_lt_succ hlt)
        (by rw [h, Nat.add_comm i 1, Nat.add_assoc])
      omega
    | succ j =>
      rw [Nat.add_comm j 1, ← Nat.add_assoc]
      cases p with
      | none => exact ih (k + 1) m hrest hj
      | some d => exact ih (k + 1) _ hrest hj

/-- A burst whose positions name distinct slots is placed as R45 and R47 say. -/
theorem burstPlaced_writePositions {slotOf : Nat → Nat} {ps : List (Option CarriedRecord)}
    (hinj : ∀ i j, i < ps.length → j < ps.length → slotOf i = slotOf j → i = j) (m : List (Nat × CurveRecord)) :
    BurstPlaced slotOf ps m (writePositions slotOf 0 ps m) := by
  refine ⟨fun k c hk => ?_, fun i hi => ?_⟩
  · rw [← storedRecord_eq, ← Nat.zero_add k]
    exact slotGet_writePositions_same ps 0 m (by simpa using hinj) hk
  · exact slotGet_writePositions_other ps 0 m (by simpa using hi)

theorem slotOfLong_injective {group start i j : Nat} (hi : i < 8) (hj : j < 8)
    (h : slotOfLong group start i = slotOfLong group start j) : i = j := by
  unfold slotOfLong at h
  omega

theorem slotOfShort_injective {group start i j : Nat} (hi : i < 4) (hj : j < 4)
    (h : slotOfShort group start i = slotOfShort group start j) : i = j := by
  unfold slotOfShort at h
  omega

/-- The start in its byte: bits 0 .. 2 (11.2). -/
theorem startBits_toNat (b : Byte) : (b.extractLsb' 0 3).toNat = b.toNat % 8 := by
  simp [BitVec.extractLsb'_toNat]

/-! ### LOAD HEAD (R44 to R46) -/

theorem abandonStaged_eq (c : CurveStore) :
    abandonStaged c =
      { c with
        staged := none
        interruptions := if c.staged = none then c.interruptions else min 65535 (c.interruptions + 1) } := by
  obtain ⟨b0, b1, b2, b3, staged, verifier, interruptions⟩ := c
  cases staged <;> rfl

section
variable {b : Fin 4} {args : List Byte} {now : Nat} {c : CurveStore}

theorem headStore_group (h : 63 < arg8 args 1) : headStore b args now c = (c, loadRefused .badArg) := by
  simp only [headStore, if_pos h]

variable (hgroup : ¬ 63 < arg8 args 1)

include hgroup

theorem headStore_notClosed (h : (bankOf c b).state ≠ .closed) :
    headStore b args now c = (c, loadRefused .bankClosed) := by
  simp only [headStore, if_neg hgroup, if_pos h]

variable (hclosed : (bankOf c b).state = .closed)

include hclosed

theorem headStore_other (h : ∃ x, c.staged = some x ∧ x.bank ≠ b) : headStore b args now c = (c, loadRefused .busy) := by
  obtain ⟨x, hx, hne⟩ := h
  simp [headStore, hgroup, hclosed, hx, stagedFor, hne]

theorem headStore_passed (h : ∀ x, c.staged = some x → x.bank = b) :
    headStore b args now c = actHead b args now (abandonStaged c) := by
  have hpass : ¬ (c.staged.isSome = true ∧ ¬ stagedFor c b = true) := by
    rintro ⟨hsome, hother⟩
    obtain ⟨x, hx⟩ := Option.isSome_iff_exists.1 hsome
    exact hother ((stagedFor_iff c b).2 ⟨x, hx, h x hx⟩)
  simp only [headStore, if_neg hgroup, if_neg (not_not.2 hclosed), if_neg hpass]

end

/-- The head of a length-8 burst is staged (R46). -/
theorem actHead_long {b : Fin 4} {args : List Byte} {now : Nat} {c : CurveStore} (h : argBit args 2 3 = true) :
    actHead b args now c =
      ({ c with
          staged := some {
            bank := b, group := arg8 args 1, start := arg8 args 2 % 8, positions := argPositions args 6 } },
        answer .done (.load true 0 .notAsked [])) := by
  simp only [actHead, if_pos h, startBits_toNat]
  rfl

/-- A length-4 burst is written, and its OPEN-AFTER judged (R45, R48). -/
theorem actHead_short {b : Fin 4} {args : List Byte} {now : Nat} {c : CurveStore} (h : argBit args 2 3 = false)
    (hclosed : (bankOf c b).state = .closed) (hstaged : c.staged = none) :
    actHead b args now c =
      let ps := argPositions args 6
      let r := openJudged (argBit args 3 0) b (arg16 args 4) now
        (writeBurst b (slotOfShort (arg8 args 1) (arg8 args 2 % 8)) ps c)
      (r.1, answer (burstResult ps) (.load false (ps.filter Option.isSome).length r.2 (burstApplied ps))) := by
  have hstate : (bankOf (writeBurst b (slotOfShort (arg8 args 1) (arg8 args 2 % 8)) (argPositions args 6) c) b).state
      = .closed := by rw [writeBurst, bankOf_setBank_same]; exact hclosed
  simp only [actHead, h, Bool.false_eq_true, if_false, startBits_toNat, writeResult_eq, appliedFrom_zero]
  rw [show (argByte args 2).toNat = arg8 args 2 from rfl,
    openAfter_eq_openJudged hstate ((setBank_staged ..).trans hstaged)]
  rfl

section
variable {r : Request} {s : State}

theorem takeLoadHead_masked (h : s.line.masked.load = true) : takeLoadHead r s = (s, loadRefused .masked) := by
  simp only [takeLoadHead, if_pos h]

variable (hmask : s.line.masked.load = false)

include hmask

theorem takeLoadHead_badArg (h : r.args.length < 74 ∨ 3 < arg8 r.args 0 ∨ 63 < arg8 r.args 1) :
    takeLoadHead r s = (s, loadRefused .badArg) := by
  unfold takeLoadHead
  rw [if_neg (by simp [hmask])]
  split
  · rfl
  · next hlen =>
    cases hb : bankNumber (arg8 r.args 0) with
    | none => rfl
    | some b =>
      have hbank := le_of_bankNumber hb
      simp only [headStore_group ((h.resolve_left hlen).resolve_left (Nat.not_lt.2 hbank))]

theorem takeLoadHead_bank {b : Fin 4} (hlen : ¬ r.args.length < 74) (hb : arg8 r.args 0 = b.val) {c : CurveStore}
    {a : Answer} (h : headStore b r.args s.clock.now s.store = (c, a)) :
    takeLoadHead r s = ({ s with store := c }, a) := by
  simp only [takeLoadHead, hmask, Bool.false_eq_true, if_false, if_neg hlen, bankNumber_of_eq hb, h]

end

/-- Settles O33: the checks in their order, and the burst of a head that passes them. -/
theorem loadHeadActs : Obligations.LoadHeadActs := by
  intro port h args s ha t refused
  have haddress : t.line.address = s.line.address := requestCounted_line_address port s
  have hmasked : t.line.masked = s.line.masked := requestCounted_line_masked port s
  have hrefused {result : ResultCode}
      (ht : takeLoadHead { port := port, h := h, args := args, level := effectiveLevel s port h } t
        = (t, loadRefused result)) : refused result := exec_concludes (row := loadHeadRow) rfl ha ht haddress
  refine ⟨fun hm => hrefused (takeLoadHead_masked (hmasked ▸ hm)),
    fun hm hbad => hrefused (takeLoadHead_badArg (hmasked ▸ hm) hbad), fun b hm hlen hb hgroup => ?_⟩
  have hacts {c : CurveStore} {result : ResultCode} {payload : ReplyPayload}
      (hc : headStore b args s.clock.now s.store = (c, answer result payload)) :
      exec (.loadHead port h args) s = .next (concludeRequest port h 8#8 args result payload { t with store := c }) :=
    exec_concludes (row := loadHeadRow) rfl ha (takeLoadHead_bank (hmasked ▸ hm) (Nat.not_lt.2 hlen) hb hc) haddress
  have hrange : ¬ 63 < arg8 args 1 := Nat.not_lt.2 hgroup
  refine ⟨fun hstate => hacts (headStore_notClosed hrange hstate),
    fun hclosed hother => hacts (headStore_other hrange hclosed hother), ?_⟩
  intro group start ps slots kept hclosed hsame
  have hkept : abandonStaged s.store = kept := abandonStaged_eq s.store
  have hpassed : headStore b args s.clock.now s.store = actHead b args s.clock.now kept :=
    (headStore_passed hrange hclosed hsame).trans (by rw [hkept])
  refine ⟨fun hshort => ⟨?_, ?_⟩, fun hlong => hacts (hpassed.trans (actHead_long hlong))⟩
  · exact hacts (hpassed.trans (actHead_short hshort hclosed rfl))
  · exact burstPlaced_writePositions (slotOf := slotOfShort group start) (ps := ps)
      (fun _ _ hi hj => slotOfShort_injective hi hj) slots

/-! ### LOAD TAIL (R47) -/

/-- The eight positions are written, the staging buffer emptied, and OPEN-AFTER judged (R47, R48). -/
theorem actTail_eq {x : StagedBurst} {args : List Byte} {now : Nat} {c : CurveStore}
    (hclosed : (bankOf c x.bank).state = .closed) :
    actTail x args now c =
      let ps := x.positions ++ argPositions args 5
      let r := openJudged (argBit args 2 0) x.bank (arg16 args 3) now
        { writeBurst x.bank (slotOfLong x.group x.start) ps c with staged := none }
      (r.1, answer (burstResult ps) (.load false (ps.filter Option.isSome).length r.2 (burstApplied ps))) := by
  have hstate : (bankOf { writeBurst x.bank (slotOfLong x.group x.start) (x.positions ++ argPositions args 5) c with
      staged := none } x.bank).state = .closed :=
    (congrArg Bank.state (bankOf_setBank_same ..)).trans hclosed
  simp only [actTail, writeResult_eq, appliedFrom_zero, openAfter_eq_openJudged hstate]
  rfl

section
variable {r : Request} {s : State}

theorem takeLoadTail_masked (h : s.line.masked.load = true) : takeLoadTail r s = (s, loadRefused .masked) := by
  simp only [takeLoadTail, if_pos h]

variable (hmask : s.line.masked.load = false)

include hmask

theorem takeLoadTail_badArg (h : r.args.length < 73 ∨ s.store.staged = none) :
    takeLoadTail r s = (s, loadRefused .badArg) := by
  simp only [takeLoadTail, hmask, Bool.false_eq_true, if_false]
  split
  · rfl
  · next hlen => simp only [h.resolve_left hlen]

variable (hlen : ¬ r.args.length < 73) {x : StagedBurst} (hx : s.store.staged = some x)

include hlen hx

theorem takeLoadTail_other (h : arg8 r.args 0 ≠ x.bank.val ∨ arg8 r.args 1 ≠ x.group) :
    takeLoadTail r s = (s, loadRefused .badArg) := by
  have hfails : ¬ (arg8 r.args 0 = x.bank.val ∧ arg8 r.args 1 = x.group) := by tauto
  simp only [takeLoadTail, hmask, Bool.false_eq_true, if_false, if_neg hlen, hx, if_neg hfails]

theorem takeLoadTail_matches (hb : arg8 r.args 0 = x.bank.val) (hg : arg8 r.args 1 = x.group) {c : CurveStore}
    {a : Answer} (h : actTail x r.args s.clock.now s.store = (c, a)) :
    takeLoadTail r s = ({ s with store := c }, a) := by
  simp only [takeLoadTail, hmask, Bool.false_eq_true, if_false, if_neg hlen, hx, if_pos (And.intro hb hg), h]

end

/-- Settles O34: the checks in their order, and the burst that a matching tail completes. -/
theorem loadTailActs : Obligations.LoadTailActs := by
  intro port h args s ha t refused
  have haddress : t.line.address = s.line.address := requestCounted_line_address port s
  have hmasked : t.line.masked = s.line.masked := requestCounted_line_masked port s
  have hrefused {result : ResultCode}
      (ht : takeLoadTail { port := port, h := h, args := args, level := effectiveLevel s port h } t
        = (t, loadRefused result)) : refused result := exec_concludes (row := loadTailRow) rfl ha ht haddress
  refine ⟨fun hm => hrefused (takeLoadTail_masked (hmasked ▸ hm)),
    fun hm hbad => hrefused (takeLoadTail_badArg (hmasked ▸ hm) hbad), fun x hm hlen hx => ?_⟩
  refine ⟨fun hother => hrefused (takeLoadTail_other (hmasked ▸ hm) (Nat.not_lt.2 hlen) hx hother), ?_⟩
  intro ps slots after r hfour _ hclosed hb hg
  refine ⟨?_, ?_⟩
  · exact exec_concludes (row := loadTailRow) rfl ha
      (takeLoadTail_matches (s := t) (hmasked ▸ hm) (Nat.not_lt.2 hlen) hx hb hg (actTail_eq hclosed)) haddress
  · have height : ps.length = 8 := by simp [ps, hfour, argPositions]
    exact burstPlaced_writePositions (slotOf := slotOfLong x.group x.start) (ps := ps)
      (fun _ _ hi hj => slotOfLong_injective (height ▸ hi) (height ▸ hj)) slots

/-! ### BANK OPEN (R50, R51) -/

section
variable {r : Request} {s : State}

theorem takeBankOpen_badArg
    (h : r.args.length < 3 ∨ 3 < arg8 r.args 0 ∨ arg16 r.args 1 = 0 ∨ 512 < arg16 r.args 1) :
    takeBankOpen r s = (s, answer .badArg) := by
  unfold takeBankOpen
  split
  · rfl
  · next hlen =>
    cases hb : bankNumber (arg8 r.args 0) with
    | none => rfl
    | some b =>
      have hbank := le_of_bankNumber hb
      have hcount : arg16 r.args 1 < 1 ∨ 512 < arg16 r.args 1 := by omega
      simp only [openRefusal_count hcount]

variable {b : Fin 4} (hlen : ¬ r.args.length < 3) (hb : arg8 r.args 0 = b.val)

include hlen hb

theorem takeBankOpen_refused {code : ResultCode} (h : openRefusal b (arg16 r.args 1) s.store = some code) :
    takeBankOpen r s = (s, answer code) := by
  simp only [takeBankOpen, if_neg hlen, bankNumber_of_eq hb, h]

theorem takeBankOpen_done (h : openRefusal b (arg16 r.args 1) s.store = none) :
    takeBankOpen r s =
      ({ s with store := startVerification b (arg16 r.args 1) s.clock.now s.store }, answer .done) := by
  simp only [takeBankOpen, if_neg hlen, bankNumber_of_eq hb, h]

end

/-- Settles O35: the checks of R50 in their order, each on a request that passes those before it. -/
theorem bankOpenStarts : Obligations.BankOpenStarts := by
  intro port h args s ha n t run refused
  have haddress : t.line.address = s.line.address := requestCounted_line_address port s
  have hacts {t' : State} {result : ResultCode}
      (ht : takeBankOpen { port := port, h := h, args := args, level := effectiveLevel s port h } t
        = (t', answer result)) (hl : t'.line.address = s.line.address) :
      run = .next (concludeRequest port h 10#8 args result .empty t') := exec_concludes (row := bankOpenRow) rfl ha ht hl
  refine ⟨fun hbad => hacts (takeBankOpen_badArg hbad) haddress, ?_⟩
  intro b hlen hb hlow hhigh bk opening waiting
  have hn : ¬ (n < 1 ∨ 512 < n) := by omega
  have hrefused {code : ResultCode} (hcode : openRefusal b n s.store = some code) : refused code :=
    hacts (takeBankOpen_refused (Nat.not_lt.2 hlen) hb hcode) haddress
  refine ⟨fun hc hf => hrefused (openRefusal_state hn ⟨hc, hf⟩), fun hstate => ?_⟩
  have hstate' : ¬ (bk.state ≠ .closed ∧ bk.state ≠ .failed) := by tauto
  refine ⟨fun hopening => ?_, fun hidle hwaiting => ?_, fun hidle hfree => ?_⟩
  · exact hrefused (openRefusal_opening hn hstate' hopening)
  · exact hrefused (openRefusal_staged hn hstate' hidle hwaiting)
  · exact hacts (takeBankOpen_done (Nat.not_lt.2 hlen) hb (openRefusal_none hn hstate' hidle hfree)) haddress

/-! ### BANK CLOSE (R57) -/

/-- The bank of the active section is in use (R37). -/
theorem bankInUse_iff (w : Walker) (b : Fin 4) :
    bankInUse w b = true ↔ w.active ≠ 0 ∧ ∃ d first count,
      slotGet w.descs w.active = some d ∧ d.kind = .curveList b first count := by
  constructor
  · intro h
    unfold bankInUse at h
    split at h
    · next b' first count _ _ _ _ _ _ hd =>
      simp only [Bool.and_eq_true, bne_iff_ne, beq_iff_eq] at h
      obtain ⟨hactive, rfl⟩ := h
      exact ⟨hactive, _, _, _, hd, rfl⟩
    · cases h
  · rintro ⟨hactive, ⟨kind, base, lengthField, granularity, nextUp, nextDown, writeLevel⟩, first, count, hd, hk⟩
    cases hk
    simp [bankInUse, hd, hactive]

section
variable {r : Request} {s : State}

theorem takeBankClose_badArg (h : r.args.length < 1 ∨ 3 < arg8 r.args 0) : takeBankClose r s = (s, answer .badArg) := by
  unfold takeBankClose
  split
  · rfl
  · next hlen => rw [bankNumber_of_gt (h.resolve_left hlen)]

variable {b : Fin 4} (hlen : ¬ r.args.length < 1) (hb : arg8 r.args 0 = b.val)

include hlen hb

theorem takeBankClose_closed (h : (bankOf s.store b).state = .closed) : takeBankClose r s = (s, answer .done) := by
  simp only [takeBankClose, if_neg hlen, bankNumber_of_eq hb, h]

theorem takeBankClose_failed (h : (bankOf s.store b).state = .failed) :
    takeBankClose r s = ({ s with store := closeBank b s.store }, answer .done) := by
  simp only [takeBankClose, if_neg hlen, bankNumber_of_eq hb, h]

theorem takeBankClose_inUse (h : (bankOf s.store b).state = .opened) (hu : bankInUse s.walker b = true) :
    takeBankClose r s = (s, answer .inUse) := by
  simp only [takeBankClose, if_neg hlen, bankNumber_of_eq hb, h, if_pos hu]

theorem takeBankClose_opened (h : (bankOf s.store b).state = .opened) (hu : bankInUse s.walker b = false) :
    takeBankClose r s = ({ s with store := closeBank b s.store }, answer .done) := by
  simp only [takeBankClose, if_neg hlen, bankNumber_of_eq hb, h, hu, Bool.false_eq_true, if_false]

theorem takeBankClose_opening (h : (bankOf s.store b).state = .opening) {x : Verification}
    (hx : s.store.verifier = some x) :
    takeBankClose r s =
      (sendReport (.bank b (.abandoned x.expected)) { s with store := abandonVerification b s.store }, answer .done) := by
  have hexpected : expectedCount s.store = x.expected := by simp only [expectedCount, hx]
  simp only [takeBankClose, if_neg hlen, bankNumber_of_eq hb, h, hexpected]

end

/-- Settles O36: by the state of the bank that the request names. -/
theorem bankCloseActs : Obligations.BankCloseActs := by
  intro port h args s ha t
  have haddress : t.line.address = s.line.address := requestCounted_line_address port s
  have hacts {t' : State} {result : ResultCode}
      (ht : takeBankClose { port := port, h := h, args := args, level := effectiveLevel s port h } t
        = (t', answer result)) (hl : t'.line.address = s.line.address) :
      exec (.bankClose port h args) s = .next (concludeRequest port h 11#8 args result .empty t') :=
    exec_concludes (row := bankCloseRow) rfl ha ht hl
  refine ⟨fun hbad => hacts (takeBankClose_badArg hbad) haddress, ?_⟩
  intro b bk closed done hlen hb
  have hlen' : ¬ args.length < 1 := Nat.not_lt.2 hlen
  refine ⟨fun hstate => ?_, fun hstate => ?_, fun hstate => ⟨bankInUse_iff s.walker b, fun huse => ?_, fun hfree => ?_⟩,
    fun x hstate hx => ?_⟩
  · exact hacts (takeBankClose_closed hlen' hb hstate) haddress
  · exact hacts (takeBankClose_failed hlen' hb hstate) haddress
  · exact hacts (takeBankClose_inUse hlen' hb hstate huse) haddress
  · exact hacts (takeBankClose_opened hlen' hb hstate hfree) haddress
  · have habandon : abandonVerification b s.store =
        { setBank s.store b { bk with state := .closed, last := .abandoned x.expected } with verifier := none } := by
      simp only [abandonVerification, expectedCount, hx]
      rfl
    rw [← habandon]
    exact hacts (takeBankClose_opening (s := t) hlen' hb hstate hx)
      ((sendReport_line_address ..).trans haddress)

/-! ### BANK ERASE and RECORD READ (R58, R59) -/

section
variable {r : Request} {s : State}

theorem takeBankErase_masked (h : s.line.masked.load = true) : takeBankErase r s = (s, answer .masked) := by
  simp only [takeBankErase, if_pos h]

theorem takeRecordRead_badArg (h : r.args.length < 3 ∨ 3 < arg8 r.args 0 ∨ 511 < arg16 r.args 1) :
    takeRecordRead r s = (s, answer .badArg) := by
  unfold takeRecordRead
  split
  · rfl
  · next hlen =>
    cases hb : bankNumber (arg8 r.args 0) with
    | none => rfl
    | some b =>
      have hbank := le_of_bankNumber hb
      simp only [if_pos ((h.resolve_left hlen).resolve_left (Nat.not_lt.2 hbank))]

theorem takeRecordRead_shown {b : Fin 4} (hlen : ¬ r.args.length < 3) (hb : arg8 r.args 0 = b.val)
    (hi : ¬ 511 < arg16 r.args 1) :
    takeRecordRead r s =
      (s, answer .done
        (.record (bankOf s.store b).state (recordBytes (slotGet (bankOf s.store b).slots (arg16 r.args 1))))) := by
  simp only [takeRecordRead, if_neg hlen, bankNumber_of_eq hb, if_neg hi]

variable (hmask : s.line.masked.load = false)

include hmask

theorem takeBankErase_badArg (h : r.args.length < 1 ∨ 3 < arg8 r.args 0) : takeBankErase r s = (s, answer .badArg) := by
  simp only [takeBankErase, hmask, Bool.false_eq_true, if_false]
  split
  · rfl
  · next hlen => rw [bankNumber_of_gt (h.resolve_left hlen)]

variable {b : Fin 4} (hlen : ¬ r.args.length < 1) (hb : arg8 r.args 0 = b.val)

include hlen hb

theorem takeBankErase_notClosed (h : (bankOf s.store b).state ≠ .closed) :
    takeBankErase r s = (s, answer .bankClosed) := by
  simp only [takeBankErase, hmask, Bool.false_eq_true, if_false, if_neg hlen, bankNumber_of_eq hb, if_pos h]

variable (hclosed : (bankOf s.store b).state = .closed)

include hclosed

theorem takeBankErase_staged (h : ∃ x, s.store.staged = some x ∧ x.bank = b) :
    takeBankErase r s = (s, answer .pendingLoad) := by
  simp only [takeBankErase, hmask, Bool.false_eq_true, if_false, if_neg hlen, bankNumber_of_eq hb,
    if_neg (not_not.2 hclosed), if_pos ((stagedFor_iff _ _).2 h)]

theorem takeBankErase_done (h : ¬ ∃ x, s.store.staged = some x ∧ x.bank = b) :
    takeBankErase r s =
      ({ s with store := setBank s.store b { slots := [], state := .closed, count := 0, last := .none } },
        answer .done) := by
  have herase : eraseBank b s.store = setBank s.store b { slots := [], state := .closed, count := 0, last := .none } := by
    simp only [eraseBank, hclosed]
  simp only [takeBankErase, hmask, Bool.false_eq_true, if_false, if_neg hlen, bankNumber_of_eq hb,
    if_neg (not_not.2 hclosed), if_neg (mt (stagedFor_iff _ _).1 h), herase]

end

/-- Settles O37: for each request the checks in their order. -/
theorem bankEraseAndRecordRead : Obligations.BankEraseAndRecordRead := by
  intro port h args s t erased refused read
  have haddress : t.line.address = s.line.address := requestCounted_line_address port s
  have hmasked : t.line.masked = s.line.masked := requestCounted_line_masked port s
  refine ⟨fun ha => ?_, fun ha => ⟨fun hbad => ?_, fun b hlen hb hi => ?_⟩⟩
  · have hacts {t' : State} {result : ResultCode}
        (ht : takeBankErase { port := port, h := h, args := args, level := effectiveLevel s port h } t
          = (t', answer result)) (hl : t'.line.address = s.line.address) :
        erased = .next (concludeRequest port h 12#8 args result .empty t') :=
      exec_concludes (row := bankEraseRow) rfl ha ht hl
    refine ⟨fun hm => hacts (takeBankErase_masked (hmasked ▸ hm)) haddress,
      fun hm hbad => hacts (takeBankErase_badArg (hmasked ▸ hm) hbad) haddress, fun b hm hlen hb => ?_⟩
    have hlen' : ¬ args.length < 1 := Nat.not_lt.2 hlen
    refine ⟨fun hstate => ?_, fun hclosed hwaiting => ?_, fun hclosed hfree => ?_⟩
    · exact hacts (takeBankErase_notClosed (hmasked ▸ hm) hlen' hb hstate) haddress
    · exact hacts (takeBankErase_staged (hmasked ▸ hm) hlen' hb hclosed hwaiting) haddress
    · exact hacts (takeBankErase_done (hmasked ▸ hm) hlen' hb hclosed hfree) haddress
  · exact exec_concludes (row := recordReadRow) rfl ha (takeRecordRead_badArg hbad) haddress
  · exact exec_concludes (row := recordReadRow) rfl ha
      (takeRecordRead_shown (Nat.not_lt.2 hlen) hb (Nat.not_lt.2 hi)) haddress

end Sys2Proof.Machine

/-! SUPPORT. The preview queue (05): its entries in the direction of travel, the arrival rule and SAMPLE (R82 to R84),
the shift (R85) and SENSE (R79 to R81). -/

namespace Sys2Proof.Machine

open Sys2Proof.Safety

/-! ### Entries that increase in the direction of travel (R78) -/

/-- A further entry keeps the order exactly when it lies beyond every other. -/
theorem increasing_concat_iff {d : Int} {l : List PreviewEntry} {e : PreviewEntry} :
    Increasing d (l ++ [e]) ↔ Increasing d l ∧ ∀ x ∈ l, 0 < d * ((e.chainage : Int) - x.chainage) := by
  simp [Increasing, List.pairwise_append]

/-- What lies beyond an entry lies beyond whatever that entry lies beyond. -/
theorem beyond_trans {d a b c : Int} (h1 : 0 < d * (b - a)) (h2 : 0 < d * (c - b)) : 0 < d * (c - a) := by
  have hsum : d * (c - a) = d * (b - a) + d * (c - b) := by ring
  omega

/-- An entry beyond the newest of a queue lies beyond all of it. -/
theorem increasing_append {d : Int} {l : List PreviewEntry} {e : PreviewEntry} (h : Increasing d l)
    (hnew : ∀ n, l.getLast? = some n → 0 < d * ((e.chainage : Int) - n.chainage)) : Increasing d (l ++ [e]) := by
  refine increasing_concat_iff.2 ⟨h, fun x hx => ?_⟩
  rcases List.eq_nil_or_concat l with rfl | ⟨old, n, rfl⟩
  · simp at hx
  have hn := hnew n (by simp)
  simp only [List.concat_eq_append, List.mem_append, List.mem_singleton] at hx h
  rcases hx with hx | rfl
  · exact beyond_trans ((increasing_concat_iff.1 h).2 x hx) hn
  · exact hn

/-! ### The arrival rule (R83, R84), by the newest entry -/

theorem newest_concat {q : PreviewQueue} {old : List PreviewEntry} {n : PreviewEntry} (h : q.entries = old ++ [n]) :
    newest q = some n := by
  simp [newest, h]

section
variable {d : Int} {e n : PreviewEntry} {q : PreviewQueue} {old : List PreviewEntry}

theorem arrive_empty (h : q.entries = []) :
    arrive d e q = { q with entries := [e], appended := count16 q.appended } := by
  have hn : newest q = none := by simp [newest, h]
  simp only [arrive, hn, appendEntry, h, List.nil_append]

variable (h : q.entries = old ++ [n])

include h

theorem arrive_appended (hd : 0 < d * ((e.chainage : Int) - n.chainage)) (hroom : q.entries.length < 512) :
    arrive d e q =
      { q with
        entries := q.entries ++ [e], appended := count16 q.appended
        seqGaps := if e.seq = n.seq + 1#8 then q.seqGaps else count16 q.seqGaps } := by
  simp only [arrive, newest_concat h, if_pos hd, Config.queueDepth, if_pos hroom, appendEntry]

theorem arrive_overrun (hd : 0 < d * ((e.chainage : Int) - n.chainage)) (hfull : q.entries.length = 512) :
    arrive d e q = { q with overruns := count16 q.overruns } := by
  simp only [arrive, newest_concat h, if_pos hd, Config.queueDepth, hfull, lt_irrefl, if_false]

theorem arrive_replaced (hc : e.chainage = n.chainage) :
    arrive d e q =
      { q with
        entries := old ++ [{ n with accel := e.accel, valid := e.valid, seq := e.seq }]
        replacements := count16 q.replacements } := by
  simp only [arrive, newest_concat h, hc, sub_self, mul_zero, lt_irrefl, if_false, if_true, h, List.dropLast_concat]

theorem arrive_stale (hd : d * ((e.chainage : Int) - n.chainage) < 0) :
    arrive d e q = { q with stale := count16 q.stale } := by
  have hc : e.chainage ≠ n.chainage := fun hc => by simp [hc] at hd
  simp only [arrive, newest_concat h, if_neg (not_lt.2 hd.le), if_neg hc]

end

/-- The next sequence modulo 256 (R84). -/
theorem seq_eq_succ_iff (x y : Byte) : x = y + 1#8 ↔ x.toNat = (y.toNat + 1) % 256 := by
  rw [← BitVec.toNat_inj, BitVec.toNat_add]
  rfl

/-! ### SAMPLE (R82) -/

theorem actsOnSample_iff (s : State) (port : Port) :
    actsOnSample s port = true ↔ s.line.upstream = some port ∧ s.pos.lead = false := by simp [actsOnSample]

theorem takeSample_acts {s : State} {port : Port} (hu : s.line.upstream = some port) (hl : s.pos.lead = false)
    (e : PreviewEntry) : takeSample port e s = { s with queue := arrive (dirFactor s.pos.dir) e s.queue } := by
  rw [takeSample, if_pos ((actsOnSample_iff s port).2 ⟨hu, hl⟩)]

theorem takeSample_ignored {s : State} {port : Port} (h : s.line.upstream ≠ some port ∨ s.pos.lead = true)
    (e : PreviewEntry) :
    takeSample port e s = { s with queue := { s.queue with ignored := count16 s.queue.ignored } } := by
  have hno : ¬ actsOnSample s port = true := by
    rw [actsOnSample_iff]
    rintro ⟨hu, hl⟩
    exact h.elim (fun hne => hne hu) (fun hlead => by simp [hl] at hlead)
  rw [takeSample, if_neg hno]

/-- Settles O51: the queue after a SAMPLE frame, by the cases of R82 and R83. -/
theorem sampleActs : Obligations.SampleActs := by
  intro port h chainage accel flags seq rest s e d passed run q hh
  have hrun {x : PreviewQueue} (ht : takeSample port e (countReceived port s) = { countReceived port s with queue := x }) :
      run = passed x := by
    have hpassed : run = .next (forward port h (.sample chainage accel flags seq rest)
        (takeSample port e (countReceived port s))) := unlessHeld_awake hh _
    rw [hpassed, ht, forward_eq]
    rfl
  have hup : (countReceived port s).line.upstream = s.line.upstream := countReceived_line_upstream port s
  refine ⟨fun hno => hrun (takeSample_ignored (hup.symm ▸ hno) e), fun hu hl => ?_⟩
  have hput {x : PreviewQueue} (ha : arrive (dirFactor s.pos.dir) e q = x) : run = passed x :=
    hrun ((takeSample_acts (hup.trans hu) hl e).trans (congrArg (fun x => { countReceived port s with queue := x }) ha))
  refine ⟨fun hempty => hput (arrive_empty hempty), fun old n hn => ⟨fun hd hroom => ?_, fun hd hfull => ?_,
    fun hc => ?_, fun hd => ?_⟩⟩
  · simp only [← seq_eq_succ_iff]
    exact hput (arrive_appended hn hd hroom)
  · exact hput (arrive_overrun hn hd hfull)
  · exact hput (arrive_replaced hn hc)
  · exact hput (arrive_stale hn hd)

/-! ### The shift (R85) -/

/-- A chainage shifted by an amount stays in range (R85). -/
def staysInRange (amount : Int) (c : Nat) : Bool :=
  decide (0 ≤ (c : Int) + amount) && decide ((c : Int) + amount ≤ Config.maxChainage)

section
variable {amount : Int}

theorem staysInRange_iff {c : Nat} :
    staysInRange amount c = true ↔ 0 ≤ (c : Int) + amount ∧ (c : Int) + amount ≤ Config.maxChainage := by
  simp [staysInRange]

theorem shiftChainage_eq (c : Nat) :
    shiftChainage amount c = if staysInRange amount c then some ((c : Int) + amount).toNat else none := by
  simp only [shiftChainage, staysInRange_iff]

theorem shiftChainage_eq_some_iff {b c : Nat} :
    shiftChainage amount b = some c ↔ (c : Int) = b + amount ∧ staysInRange amount b = true := by
  rw [shiftChainage_eq]
  split
  · next h =>
    have hpos := (staysInRange_iff.1 h).1
    simp only [Option.some.injEq, h, and_true]
    omega
  · next h => simp [h]

theorem shiftEntry_kept {e : PreviewEntry} (h : staysInRange amount e.chainage = true) :
    shiftEntry amount e = some { e with chainage := ((e.chainage : Int) + amount).toNat } := by
  rw [shiftEntry, shiftChainage_eq, if_pos h, Option.map_some]

theorem shiftEntry_lost {e : PreviewEntry} (h : ¬ staysInRange amount e.chainage = true) :
    shiftEntry amount e = none := by
  rw [shiftEntry, shiftChainage_eq, if_neg h, Option.map_none]

/-- What becomes of an entry that a shift keeps. -/
theorem shiftEntry_some {e x : PreviewEntry} (h : shiftEntry amount e = some x) :
    (x.chainage : Int) = e.chainage + amount ∧ x.chainage ≤ Config.maxChainage ∧ x.accel = e.accel := by
  by_cases hin : staysInRange amount e.chainage = true
  · cases (shiftEntry_kept hin).symm.trans h
    obtain ⟨hlow, hhigh⟩ := staysInRange_iff.1 hin
    exact ⟨Int.toNat_of_nonneg hlow, Int.toNat_le.2 hhigh, rfl⟩
  · cases (shiftEntry_lost hin).symm.trans h

/-- What a shift keeps, read through its chainages: the entries that stay in range, each moved by the amount. -/
theorem map_shift {α : Type} (f : Int → PreviewEntry → α) (hf : ∀ c e c', f c { e with chainage := c' } = f c e)
    (l : List PreviewEntry) :
    (l.filterMap (shiftEntry amount)).map (fun e => f e.chainage e)
      = (l.filter fun e => staysInRange amount e.chainage).map fun e => f (e.chainage + amount) e := by
  induction l with
  | nil => rfl
  | cons e l ih =>
    by_cases hin : staysInRange amount e.chainage = true
    · rw [List.filterMap_cons_some (shiftEntry_kept hin), List.filter_cons, if_pos hin, List.map_cons, List.map_cons, ih,
        hf, Int.toNat_of_nonneg (staysInRange_iff.1 hin).1]
    · rw [List.filterMap_cons_none (shiftEntry_lost hin), List.filter_cons, if_neg hin, ih]

theorem length_shift (l : List PreviewEntry) :
    (l.filterMap (shiftEntry amount)).length = (l.filter fun e => staysInRange amount e.chainage).length := by
  simpa using congrArg List.length (map_shift (amount := amount) (fun _ _ => ()) (fun _ _ _ => rfl) l)

end

/-- Settles O50: the entries kept, the number lost, and last originated, each from the shift of one chainage. -/
theorem queueShifts : Obligations.QueueShifts := by
  intro amount q inRange fields t
  refine ⟨?_, ?_, fun c => ?_, rfl⟩
  · calc t.entries.map (fields 0)
        = (q.entries.filterMap (shiftEntry amount)).map (fun e => ((e.chainage : Int), e.accel, e.valid, e.seq)) := by
          simp only [fields, add_zero]
          rfl
      _ = (q.entries.filter fun e => staysInRange amount e.chainage).map (fields amount) :=
          map_shift (fun c e => (c, e.accel, e.valid, e.seq)) (fun _ _ _ => rfl) q.entries
      _ = (q.entries.map (fields amount)).filter (fun x => inRange x.1) := by
          rw [List.filter_map]
          rfl
  · have hall := List.length_eq_length_filter_add (l := q.entries) fun e => staysInRange amount e.chainage
    show min 65535 (q.shiftLosses + (q.entries.length - (q.entries.filterMap (shiftEntry amount)).length)) = _
    rw [length_shift, hall, Nat.add_sub_cancel_left]
    rfl
  · show q.lastOriginated.bind (shiftChainage amount) = some c ↔ _
    simp only [Option.bind_eq_some_iff, shiftChainage_eq_some_iff]
    rfl

/-! ### SENSE (R79 to R81) -/

section
variable {accel : Word16} {flags : Byte} {s : State}

/-- A SENSE frame that originates nothing (R79, R80). -/
theorem senseFrame_stored
    (h : s.pos.lead = true → originates s.queue (positionQuery s).b s.params.strideDm = false) :
    senseFrame accel flags s = { s with queue := storeSense accel flags s.queue } := by
  cases hl : s.pos.lead with
  | false => simp only [senseFrame, hl, Bool.false_eq_true, if_false]
  | true =>
    have ho : originates (storeSense accel flags s.queue)
        (positionQuery { s with queue := storeSense accel flags s.queue }).b s.params.strideDm = false := h hl
    simp only [senseFrame, hl, if_true, ho, Bool.false_eq_true, if_false]

/-- A SENSE frame that originates a sample (R80). -/
theorem senseFrame_originated (hl : s.pos.lead = true)
    (h : originates s.queue (positionQuery s).b s.params.strideDm = true) :
    senseFrame accel flags s =
      originate (positionQuery s) { s with queue := storeSense accel flags s.queue } := by
  have ho : originates (storeSense accel flags s.queue)
      (positionQuery { s with queue := storeSense accel flags s.queue }).b s.params.strideDm = true := h
  simp only [senseFrame, hl, if_true, ho]
  rfl

end

theorem originates_eq_true_iff (q : PreviewQueue) (b stride : Nat) :
    originates q b stride = true ↔ ∀ c, q.lastOriginated = some c → stride ≤ ((b : Int) - c).natAbs := by
  unfold originates
  cases q.lastOriginated <;> simp

theorem originates_eq_false {q : PreviewQueue} {b c stride : Nat} (hc : q.lastOriginated = some c)
    (h : ((b : Int) - c).natAbs < stride) : originates q b stride = false := by
  rw [originates, hc]
  exact decide_eq_false (not_le.2 h)

theorem originate_known {s : State} {up : Port} (hu : s.line.upstream = some up) (pa : PositionAnswer) :
    originate pa s =
      onPort (otherPort up) (joinOwn (sampleFrame s (originatedEntry s.queue pa.b pa.o)))
        { s with queue := originateInto (dirFactor s.pos.dir) (originatedEntry s.queue pa.b pa.o) s.queue } := by
  simp only [originate, hu]

/-- Settles O52, by whether the frame originates a sample (R80). -/
theorem senseActs : Obligations.SenseActs := by
  intro accel flags s a q pa e originated hh
  have hrun {t : State} (ht : senseFrame accel flags s = t) : exec (.sense accel flags) s = .next t :=
    ht ▸ unlessHeld_awake hh _
  refine ⟨fun hl => ?_, fun c hl hc hnear => ?_, fun up hl hu hfar => ?_⟩
  · exact hrun (senseFrame_stored fun hlead => absurd (hl.symm.trans hlead) nofun)
  · exact hrun (senseFrame_stored fun _ => originates_eq_false hc hnear)
  · refine hrun ((senseFrame_originated hl ((originates_eq_true_iff ..).2 hfar)).trans ?_)
    exact originate_known (s := { s with queue := storeSense accel flags s.queue }) hu _

end Sys2Proof.Machine

/-! SUPPORT. The reactive query (R87 to R92): what retirement leaves, and the entries the lookup uses. -/

namespace Sys2Proof.Machine

open Sys2Proof.Safety

/-! ### How far an entry lies behind the due point (R87) -/

/-- The distance of an entry behind q in the direction of travel; negative for an entry beyond q (R87). -/
def gapBehind (d : Int) (q : Nat) (e : PreviewEntry) : Int := d * ((q : Int) - e.chainage)

section
variable {d : Int} {q : Nat} {l : List PreviewEntry}

theorem gapBehind_lt_iff {x y : PreviewEntry} :
    gapBehind d q y < gapBehind d q x ↔ 0 < d * ((y.chainage : Int) - x.chainage) := by
  have hsum : d * ((y.chainage : Int) - x.chainage) = gapBehind d q x - gapBehind d q y := by
    unfold gapBehind; ring
  omega

/-- The law of R78, seen from a due point: from oldest to newest the entries lie ever less far behind it. -/
theorem increasing_iff_gapBehind (q : Nat) :
    Increasing d l ↔ l.Pairwise fun x y => gapBehind d q y < gapBehind d q x := by
  simp only [Increasing, gapBehind_lt_iff]

theorem mem_behindEntries {e : PreviewEntry} : e ∈ behindEntries d q l ↔ e ∈ l ∧ 0 ≤ gapBehind d q e := by
  simp [behindEntries, atOrBehind, gapBehind]

theorem mem_beyondEntries {e : PreviewEntry} : e ∈ beyondEntries d q l ↔ e ∈ l ∧ gapBehind d q e < 0 := by
  simp [beyondEntries, atOrBehind, gapBehind]

theorem behindEntries_eq_nil_iff : behindEntries d q l = [] ↔ ∀ x ∈ l, gapBehind d q x < 0 := by
  simp [behindEntries, atOrBehind, gapBehind]

theorem behindEntries_eq_self_iff : behindEntries d q l = l ↔ ∀ x ∈ l, 0 ≤ gapBehind d q x := by
  simp [behindEntries, atOrBehind, gapBehind]

theorem beyondEntries_eq_nil_iff : beyondEntries d q l = [] ↔ ∀ x ∈ l, 0 ≤ gapBehind d q x := by
  simp [beyondEntries, atOrBehind, gapBehind]

theorem beyondEntries_eq_self_iff : beyondEntries d q l = l ↔ ∀ x ∈ l, gapBehind d q x < 0 := by
  simp [beyondEntries, atOrBehind, gapBehind]

/-- The newest entry at or behind q, if there is one, is at or behind it. -/
theorem gapBehind_of_mem_last {e : PreviewEntry} (h : e ∈ (behindEntries d q l).getLast?.toList) :
    0 ≤ gapBehind d q e :=
  (mem_behindEntries.1 (List.mem_of_getLast? (Option.mem_toList.1 h))).2

/-- The newest entry is the one least far behind. -/
theorem getLast?_eq_some_iff_nearest (h : Increasing d l) {e : PreviewEntry} :
    l.getLast? = some e ↔ e ∈ l ∧ ∀ x ∈ l, gapBehind d q e ≤ gapBehind d q x := by
  rw [increasing_iff_gapBehind q] at h
  rcases List.eq_nil_or_concat l with rfl | ⟨old, n, rfl⟩
  · simp
  simp only [List.concat_eq_append, List.pairwise_append, List.mem_singleton, forall_eq, List.getLast?_concat,
    Option.some.injEq, List.mem_append] at h ⊢
  obtain ⟨-, -, hnewest⟩ := h
  constructor
  · rintro rfl
    exact ⟨.inr rfl, fun x hx => hx.elim (fun hx => (hnewest x hx).le) fun hx => hx ▸ le_refl _⟩
  · rintro ⟨he | he, hnearest⟩
    · exact absurd (hnewest e he) (not_lt.2 (hnearest n (.inr rfl)))
    · exact he.symm

/-- The oldest entry is the one farthest behind. -/
theorem head?_eq_some_iff_farthest (h : Increasing d l) {e : PreviewEntry} :
    l.head? = some e ↔ e ∈ l ∧ ∀ x ∈ l, gapBehind d q x ≤ gapBehind d q e := by
  rw [increasing_iff_gapBehind q] at h
  cases l with
  | nil => simp
  | cons o l =>
    obtain ⟨holdest, -⟩ := List.pairwise_cons.1 h
    simp only [List.head?_cons, Option.some.injEq, List.mem_cons, forall_eq_or_imp]
    constructor
    · rintro rfl
      exact ⟨.inl rfl, le_refl _, fun x hx => (holdest x hx).le⟩
    · rintro ⟨he | he, hfarthest, -⟩
      · exact he.symm
      · exact absurd (holdest e he) (not_lt.2 hfarthest)

/-- The entries at or behind q stand before those beyond it. -/
theorem behindEntries_append_beyondEntries (h : Increasing d l) (q : Nat) :
    behindEntries d q l ++ beyondEntries d q l = l := by
  rw [increasing_iff_gapBehind q] at h
  induction l with
  | nil => rfl
  | cons e l ih =>
    obtain ⟨hfirst, hrest⟩ := List.pairwise_cons.1 h
    by_cases he : atOrBehind d q e = true
    · simpa [behindEntries, beyondEntries, he] using ih hrest
    · have hgap : gapBehind d q e < 0 := by simpa [atOrBehind, gapBehind] using he
      have hall : ∀ x ∈ e :: l, gapBehind d q x < 0 :=
        List.forall_mem_cons.2 ⟨hgap, fun x hx => (hfirst x hx).trans hgap⟩
      rw [behindEntries_eq_nil_iff.2 hall, beyondEntries_eq_self_iff.2 hall, List.nil_append]

/-! ### Retirement (R88) -/

/-- Retirement only removes entries. -/
theorem retire_sublist (h : Increasing d l) (q : Nat) : (retire d q l).Sublist l := by
  have hlast : (behindEntries d q l).getLast?.toList.Sublist (behindEntries d q l) := by
    cases hb : (behindEntries d q l).getLast? with
    | none => exact List.nil_sublist _
    | some e => exact List.singleton_sublist.2 (List.mem_of_getLast? hb)
  calc (retire d q l).Sublist (behindEntries d q l ++ beyondEntries d q l) := hlast.append_right _
    _ = l := behindEntries_append_beyondEntries h q

/-- Of the entries at or behind q the newest alone is left. -/
theorem behindEntries_retire : behindEntries d q (retire d q l) = (behindEntries d q l).getLast?.toList := by
  have hlast : behindEntries d q (behindEntries d q l).getLast?.toList = (behindEntries d q l).getLast?.toList :=
    behindEntries_eq_self_iff.2 fun _ => gapBehind_of_mem_last
  have hbeyond : behindEntries d q (beyondEntries d q l) = [] :=
    behindEntries_eq_nil_iff.2 fun _ hx => (mem_beyondEntries.1 hx).2
  rw [retire, behindEntries, List.filter_append]
  exact (congrArg₂ _ hlast hbeyond).trans (List.append_nil _)

/-- The entries beyond q are all left. -/
theorem beyondEntries_retire : beyondEntries d q (retire d q l) = beyondEntries d q l := by
  have hlast : beyondEntries d q (behindEntries d q l).getLast?.toList = [] :=
    beyondEntries_eq_nil_iff.2 fun _ => gapBehind_of_mem_last
  have hbeyond : beyondEntries d q (beyondEntries d q l) = beyondEntries d q l :=
    beyondEntries_eq_self_iff.2 fun _ hx => (mem_beyondEntries.1 hx).2
  rw [retire, beyondEntries, List.filter_append]
  exact congrArg₂ _ hlast hbeyond

/-- The lookup answers after retirement as it would before. -/
theorem lookupReactive_retire (stride : Nat) :
    lookupReactive d q stride (retire d q l) = lookupReactive d q stride l := by
  have hlast (o : Option PreviewEntry) : o.toList.getLast? = o := by cases o <;> rfl
  rw [lookupReactive, behindEntries_retire, beyondEntries_retire, hlast]
  rfl

/-! ### The entries the lookup uses -/

/-- An entry at or behind q, and no other lies nearer to it there (R88). -/
structure NearestBehind (d : Int) (q : Nat) (l : List PreviewEntry) (e : PreviewEntry) : Prop where
  mem : e ∈ l
  behind : 0 ≤ gapBehind d q e
  nearest : ∀ x ∈ l, 0 ≤ gapBehind d q x → gapBehind d q e ≤ gapBehind d q x

/-- An entry beyond q, and no other lies nearer to it there (R89). -/
structure NearestBeyond (d : Int) (q : Nat) (l : List PreviewEntry) (e : PreviewEntry) : Prop where
  mem : e ∈ l
  beyond : gapBehind d q e < 0
  nearest : ∀ x ∈ l, gapBehind d q x < 0 → gapBehind d q x ≤ gapBehind d q e

theorem nearestBehind_iff (h : Increasing d l) {e : PreviewEntry} :
    (behindEntries d q l).getLast? = some e ↔ NearestBehind d q l e := by
  have hsub : Increasing d (behindEntries d q l) := h.filter _
  rw [getLast?_eq_some_iff_nearest (q := q) hsub]
  simp only [mem_behindEntries]
  exact ⟨fun ⟨⟨h1, h2⟩, h3⟩ => ⟨h1, h2, fun x hx hg => h3 x ⟨hx, hg⟩⟩, fun ⟨h1, h2, h3⟩ =>
    ⟨⟨h1, h2⟩, fun x hx => h3 x hx.1 hx.2⟩⟩

theorem nearestBeyond_iff (h : Increasing d l) {e : PreviewEntry} :
    (beyondEntries d q l).head? = some e ↔ NearestBeyond d q l e := by
  have hsub : Increasing d (beyondEntries d q l) := h.filter _
  rw [head?_eq_some_iff_farthest (q := q) hsub]
  simp only [mem_beyondEntries]
  exact ⟨fun ⟨⟨h1, h2⟩, h3⟩ => ⟨h1, h2, fun x hx hg => h3 x ⟨hx, hg⟩⟩, fun ⟨h1, h2, h3⟩ =>
    ⟨⟨h1, h2⟩, fun x hx => h3 x hx.1 hx.2⟩⟩

/-- What retirement leaves: the nearest entry at or behind q, and every entry beyond it (R88). -/
theorem mem_retire (h : Increasing d l) {e : PreviewEntry} :
    e ∈ retire d q l ↔ NearestBehind d q l e ∨ e ∈ l ∧ gapBehind d q e < 0 := by
  rw [retire, List.mem_append, Option.mem_toList, nearestBehind_iff h, mem_beyondEntries]

/-! ### The lookup (R89 to R92) -/

/-- With an entry on each side of q the lookup interpolates (R89, R92). -/
theorem lookupReactive_interpolated (h : Increasing d l) {e1 e2 : PreviewEntry} (h1 : NearestBehind d q l e1)
    (h2 : NearestBeyond d q l e2) (stride : Nat) :
    lookupReactive d q stride l =
      if e1.valid ∧ e2.valid then .interpolated (interpolate e1 e2 q) e1.chainage e2.chainage else .invalid := by
  simp only [lookupReactive, (nearestBehind_iff h).2 h1, (nearestBeyond_iff h).2 h2, Bool.and_eq_true]

/-- With no entry beyond q the lookup holds, within two strides (R90, R92). -/
theorem lookupReactive_held (h : Increasing d l) {e : PreviewEntry} (he : NearestBehind d q l e)
    (hall : ∀ x ∈ l, 0 ≤ gapBehind d q x) (stride : Nat) :
    lookupReactive d q stride l =
      if 2 * (stride : Int) < gapBehind d q e then .gap
      else if e.valid then .held e.accel e.chainage else .invalid := by
  simp only [lookupReactive, (nearestBehind_iff h).2 he, beyondEntries_eq_nil_iff.2 hall, List.head?_nil]
  exact (ite_not ..).symm.trans (if_congr not_le rfl rfl)

/-- With no entry at or behind q the lookup answers GAP (R91). -/
theorem lookupReactive_gap (hall : ∀ x ∈ l, gapBehind d q x < 0) (stride : Nat) :
    lookupReactive d q stride l = .gap := by
  simp only [lookupReactive, behindEntries_eq_nil_iff.2 hall, List.getLast?_nil]

end

/-- An answer changes no more than the count of R91 or R92. -/
theorem countAnswer_eq (a : ReactiveAnswer) (x : PreviewQueue) :
    countAnswer a x =
      { x with
        gapAnswers := if a = .gap then count16 x.gapAnswers else x.gapAnswers
        invalidAnswers := if a = .invalid then count16 x.invalidAnswers else x.invalidAnswers } := by
  cases a <;> rfl

/-- The reactive query: retirement, then the lookup in the queue as it stood (R87). -/
theorem reactiveQuery_eq (d : Int) (q stride : Nat) (x : PreviewQueue) :
    reactiveQuery d q stride x =
      (countAnswer (lookupReactive d q stride x.entries) { x with entries := retire d q x.entries },
        lookupReactive d q stride x.entries) := by
  simp only [reactiveQuery, lookupReactive_retire]

/-- Settles O54: retirement and the counts, then the lookup by where entries lie. -/
theorem reactiveAnswered : Obligations.ReactiveAnswered := by
  intro d q stride x _ hx gap r nearestBehind nearestBeyond
  have hbehind {e : PreviewEntry} : nearestBehind e ↔ NearestBehind d q x.entries e :=
    ⟨fun ⟨h1, h2, h3⟩ => ⟨h1, h2, h3⟩, fun ⟨h1, h2, h3⟩ => ⟨h1, h2, h3⟩⟩
  have hbeyond {e : PreviewEntry} : nearestBeyond e ↔ NearestBeyond d q x.entries e :=
    ⟨fun ⟨h1, h2, h3⟩ => ⟨h1, h2, h3⟩, fun ⟨h1, h2, h3⟩ => ⟨h1, h2, h3⟩⟩
  have hr : r = (countAnswer (lookupReactive d q stride x.entries) { x with entries := retire d q x.entries },
      lookupReactive d q stride x.entries) := reactiveQuery_eq d q stride x
  rw [countAnswer_eq] at hr
  have hentries : r.1.entries = retire d q x.entries := by rw [hr]
  refine ⟨?_, fun e => ?_, ?_, ?_, ?_, fun e1 e2 h1 h2 => ?_, fun e he hall => ?_, fun hall => ?_⟩
  · rw [hentries]
    exact hx.sublist (retire_sublist hx q)
  · rw [hentries, mem_retire hx, ← hbehind]
    exact ⟨fun h => h.elim (fun h => ⟨h.1, .inr h⟩) fun h => ⟨h.1, .inl h.2⟩,
      fun ⟨hm, h⟩ => h.elim (fun h => .inr ⟨hm, h⟩) .inl⟩
  · rw [hr]
  · rw [hr]
    rfl
  · rw [hr]
    rfl
  · rw [hr]
    exact lookupReactive_interpolated hx (hbehind.1 h1) (hbeyond.1 h2) stride
  · rw [hr]
    exact lookupReactive_held hx (hbehind.1 he) hall stride
  · rw [hr]
    exact lookupReactive_gap hall stride

end Sys2Proof.Machine

/-! SUPPORT. What a command can do to the preview queue, and to what its law reads beside it (R78): only ODOMETRY, FIX,
SAMPLE, SENSE, a step, RESTART and device reset do anything. -/

namespace Sys2Proof.Machine

open Sys2Proof.Safety

/-! ### Actions that leave the queue alone -/

/-- What the law of the preview queue reads: the queue, the direction held, the lead role and the upstream port. -/
abbrev queueView (s : State) : PreviewQueue × Direction × Bool × Option Port :=
  (s.queue, s.pos.dir, s.pos.lead, s.line.upstream)

theorem FramesPlaced.queueView_eq {n : Nat} {s t : State} (h : FramesPlaced n s t) (hq : t.queue = s.queue)
    (hp : t.pos = s.pos) : queueView t = queueView s := by
  simp only [queueView, hq, hp, h.upstream]

@[simp] theorem queueView_sendReport (r : Report) (s : State) : queueView (sendReport r s) = queueView s := by
  simp only [queueView, sendReport_queue, sendReport_pos, sendReport_line_upstream]

@[simp] theorem queueView_answerHold (o : SettleOutcome) (s : State) : queueView (answerHold o s) = queueView s :=
  (framesPlaced_answerHold o s).queueView_eq (by rw [answerHold_eq]) (by rw [answerHold_eq])

@[simp] theorem queueView_changeMode (reason : ModeReason) (m : ModeController) (s : State) :
    queueView (changeMode reason m s) = queueView s :=
  (framesPlaced_changeMode reason m s).queueView_eq (by rw [changeMode_eq]) (by rw [changeMode_eq])

@[simp] theorem queueView_takeFault (cause : FaultCause) (s : State) : queueView (takeFault cause s) = queueView s :=
  (framesPlaced_takeFault cause s).queueView_eq (by rw [takeFault_eq]) (by rw [takeFault_eq])

@[simp] theorem queueView_auditAnswer (seq : Byte) (stroke angle : Int) (status : AckStatus) (s : State) :
    queueView (auditAnswer seq stroke angle status s) = queueView s :=
  (framesPlaced_auditAnswer seq stroke angle status s).queueView_eq (by rw [auditAnswer_eq]) (by rw [auditAnswer_eq])

@[simp] theorem queueView_auditHandover (sum : StepSummary) (d : Drive) (s : State) :
    queueView (auditHandover sum d s) = queueView s :=
  (framesPlaced_auditHandover sum d s).queueView_eq (by rw [auditHandover_eq]) (by rw [auditHandover_eq])

@[simp] theorem queueView_runStages (g : Stages) (pa : PositionAnswer) (ra : RouteAnswer) (s : State) :
    queueView (runStages g pa ra s) = queueView s :=
  (framesPlaced_runStages g pa ra s).queueView_eq (by rw [runStages_eq]) (by rw [runStages_eq])

@[simp] theorem queueView_takeCommand (c : Option Int) (s : State) : queueView (takeCommand c s) = queueView s := by
  rw [takeCommand_eq]

theorem queueView_judgeMiss (s : State) : queueView (judgeMiss s) = queueView s := by
  unfold judgeMiss
  split
  · split
    · rfl
    · exact queueView_takeFault ..
  · rfl

theorem queueView_watchdogExpires (s : State) : queueView (watchdogExpires s) = queueView s :=
  queueView_takeFault ..

theorem queueView_watchdogExpiry (s : State) : queueView (watchdogExpiry s) = queueView s := by
  unfold watchdogExpiry
  split
  · rfl
  · exact queueView_watchdogExpires _

theorem queueView_verifyCompletes (s : State) : queueView (verifyCompletes s) = queueView s := by
  unfold verifyCompletes
  split
  · rfl
  · exact queueView_sendReport ..

theorem queueView_takeAck (kind : DriveKind) (angle : Int) (status : AckStatus) (s : State) :
    queueView (takeAck kind angle status s) = queueView s := by
  have hcentring (x : State) : queueView (judgeCentring angle x) = queueView x := by
    unfold judgeCentring
    split
    · exact queueView_changeMode ..
    · rfl
  have hsettle (x : State) : queueView (judgeSettle angle x) = queueView x := by
    unfold judgeSettle
    split_ifs
    · rfl
    · rfl
    · exact queueView_answerHold ..
    · rfl
  unfold takeAck
  split_ifs
  · exact queueView_takeFault ..
  · rfl
  · exact (hsettle _).trans (hcentring _)

theorem queueView_receiveAck (q : Byte) (x : Word16) (st : Byte) (s : State) :
    queueView (receiveAck q x st s) = queueView s := by
  unfold receiveAck
  split
  · exact (queueView_auditAnswer ..).trans (queueView_takeAck ..)
  · rfl

theorem queueView_concludeStep (pa : PositionAnswer) (ra : RouteAnswer) (re : ReactiveAnswer) (s : State) :
    queueView (concludeStep pa ra re s) = queueView s :=
  calc queueView (concludeStep pa ra re s)
      = queueView (judgeMiss _) := queueView_auditHandover ..
    _ = queueView (takeCommand _ (runStages _ pa ra s)) := queueView_judgeMiss _
    _ = queueView s := (queueView_takeCommand ..).trans (queueView_runStages ..)

theorem queueView_applyParam (x : Param) (v : Int) (s : State) : queueView (applyParam x v s) = queueView s := by
  have hset : queueView (setParam x v s) = queueView s := by cases x <;> rfl
  rcases applyParam_cases x v s with h | ⟨-, -, -, h⟩ <;> rw [h]
  · exact hset
  · exact (queueView_watchdogExpires _).trans hset

/-! ### The owners of the requests -/

/-- An owner's action on its request leaves the queue alone, and what its law reads beside it. -/
def OwnerSparesQueue (take : Request → State → State × Answer) : Prop :=
  ∀ r s, queueView (take r s).1 = queueView s

theorem ownerSparesQueue_statusRead : OwnerSparesQueue takeStatusRead := by
  intro r s
  unfold takeStatusRead
  (repeat' split) <;> rfl

theorem ownerSparesQueue_paramSet : OwnerSparesQueue takeParamSet := by
  intro r s
  unfold takeParamSet
  split
  · rfl
  · split
    · rfl
    · split
      · rfl
      · exact queueView_applyParam ..

theorem ownerSparesQueue_paramRead : OwnerSparesQueue takeParamRead := by
  intro r s
  unfold takeParamRead
  (repeat' split) <;> rfl

theorem ownerSparesQueue_modeSet : OwnerSparesQueue takeModeSet := by
  intro r s
  unfold takeModeSet
  (repeat' split) <;> simp

theorem ownerSparesQueue_descWrite : OwnerSparesQueue takeDescWrite := by
  intro r s
  unfold takeDescWrite
  dsimp only
  (repeat' split) <;> rfl

theorem ownerSparesQueue_descClear : OwnerSparesQueue takeDescClear := by
  intro r s
  unfold takeDescClear
  dsimp only
  (repeat' split) <;> rfl

theorem ownerSparesQueue_descRead : OwnerSparesQueue takeDescRead := by
  intro r s
  unfold takeDescRead
  dsimp only
  (repeat' split) <;> rfl

theorem ownerSparesQueue_sectionSelect : OwnerSparesQueue takeSectionSelect := by
  intro r s
  unfold takeSectionSelect
  dsimp only
  (repeat' split) <;> rfl

theorem ownerSparesQueue_loadHead : OwnerSparesQueue takeLoadHead := by
  intro r s
  unfold takeLoadHead
  (repeat' split) <;> rfl

theorem ownerSparesQueue_loadTail : OwnerSparesQueue takeLoadTail := by
  intro r s
  unfold takeLoadTail
  (repeat' split) <;> rfl

theorem ownerSparesQueue_bankOpen : OwnerSparesQueue takeBankOpen := by
  intro r s
  unfold takeBankOpen
  (repeat' split) <;> rfl

theorem ownerSparesQueue_bankClose : OwnerSparesQueue takeBankClose := by
  intro r s
  unfold takeBankClose
  (repeat' split) <;> simp

theorem ownerSparesQueue_bankErase : OwnerSparesQueue takeBankErase := by
  intro r s
  unfold takeBankErase
  (repeat' split) <;> rfl

theorem ownerSparesQueue_recordRead : OwnerSparesQueue takeRecordRead := by
  intro r s
  unfold takeRecordRead
  (repeat' split) <;> rfl

theorem ownerSparesQueue_strokeLoad : OwnerSparesQueue takeStrokeLoad := by
  intro r s
  unfold takeStrokeLoad
  dsimp only
  (repeat' split) <;> rfl

theorem ownerSparesQueue_hold : OwnerSparesQueue takeHold := by
  intro r s
  unfold takeHold
  split_ifs
  · rfl
  · rfl
  · exact queueView_changeMode ..

theorem ownerSparesQueue_release : OwnerSparesQueue takeRelease := by
  intro r s
  unfold takeRelease
  split
  · refine (queueView_answerHold ..).trans ?_
    split
    · exact queueView_changeMode ..
    · rfl
  · rfl

theorem ownerSparesQueue_resume : OwnerSparesQueue takeResume := by
  intro r s
  unfold takeResume
  (repeat' split) <;> simp

theorem ownerSparesQueue_auditArm : OwnerSparesQueue takeAuditArm := by
  intro r s
  unfold takeAuditArm
  (repeat' split) <;> rfl

theorem queueView_maskEffects (before after : Features) (s : State) :
    queueView (maskEffects before after s) = queueView s := by
  have hpred : queueView (if after.predictive && !before.predictive then maskPredictive s else s) = queueView s := by
    split
    · exact queueView_changeMode ..
    · rfl
  have haudit (x : State) : queueView (if after.audit && !before.audit then maskAudit x else x) = queueView x := by
    split <;> rfl
  have hload (x : State) : queueView (if after.load && !before.load then maskLoad x else x) = queueView x := by
    split <;> rfl
  exact (hload _).trans ((haudit _).trans hpred)

theorem ownerSparesQueue_featureMask : OwnerSparesQueue takeFeatureMask := by
  intro r s
  unfold takeFeatureMask
  split
  · rfl
  · exact queueView_maskEffects ..

/-- RESTART flushes the queue (R86, R168). -/
theorem queueView_takeRestart (r : Request) (s : State) :
    queueView (takeRestart r s).1 = queueView { s with queue := flushQueue s.queue } := by
  have hmode (x : State) : queueView (restartMode x) = queueView x :=
    (queueView_changeMode ..).trans (queueView_answerHold ..)
  exact hmode (restartStore { s with queue := flushQueue s.queue, demand := restartedDemand s.demand })

/-- RESTART apart, every owner of requests leaves the queue alone. -/
theorem ownerSparesQueue_catalogue : ∀ row ∈ catalogue, row = restartRow ∨ OwnerSparesQueue row.take := by
  simp only [catalogue, List.forall_mem_cons]
  exact ⟨.inr ownerSparesQueue_statusRead, .inr ownerSparesQueue_paramSet, .inr ownerSparesQueue_paramRead,
    .inr ownerSparesQueue_modeSet, .inr ownerSparesQueue_descWrite, .inr ownerSparesQueue_descClear,
    .inr ownerSparesQueue_descRead, .inr ownerSparesQueue_loadHead, .inr ownerSparesQueue_loadTail,
    .inr ownerSparesQueue_bankOpen, .inr ownerSparesQueue_bankClose, .inr ownerSparesQueue_bankErase,
    .inr ownerSparesQueue_recordRead, .inr ownerSparesQueue_strokeLoad, .inr fun _ _ => rfl,
    .inr ownerSparesQueue_sectionSelect, .inr ownerSparesQueue_hold, .inr ownerSparesQueue_release,
    .inr ownerSparesQueue_resume, .inr ownerSparesQueue_auditArm, .inr ownerSparesQueue_featureMask, .inl trivial, nofun⟩

/-! ### Actions on the queue -/

/-- An ODOMETRY frame takes its port, direction and role, and flushes the queue when its kind asks for it (R3, R86). -/
theorem queueView_takeOdometry (p : Port) (hop : Byte) (x : Word24) (v : Word16) (d : Byte) (s : State) :
    queueView (takeOdometry p hop x v d s) =
      (if asksFlush (arrivalKind s.line.upstream p) s.pos.dir (directionOf d) then flushQueue s.queue else s.queue,
        directionOf d, hop == 0#8, some p) := by
  unfold takeOdometry
  dsimp only
  split
  · exact queueView_takeFault ..
  · rfl

/-- A FIX frame shifts the queue or leaves it alone (R17, R85). -/
theorem queueView_takeFix (p : Port) (b x : Word24) (a v : Byte) (s : State) :
    queueView (takeFix p b x a v s).1 = queueView s
      ∨ ∃ amount, queueView (takeFix p b x a v s).1 = queueView { s with queue := shiftQueue amount s.queue } := by
  unfold takeFix leadFix followFix
  split_ifs
  · exact .inr ⟨_, rfl⟩
  · exact .inl rfl
  · split
    · exact .inr ⟨_, rfl⟩
    · exact .inl rfl
    · exact .inl rfl
  · exact .inl rfl

/-- A step makes the reactive query of its position answer (R87, R98). -/
theorem queueView_runStep (s : State) :
    queueView (runStep s) =
      queueView { s with
        queue := (reactiveQuery (queryDirection s) (positionQuery (beginStep s)).q s.params.strideDm s.queue).1 } :=
  queueView_concludeStep ..

end Sys2Proof.Machine

/-! SUPPORT. The law of the preview queue (R78): what an arrival, a shift, a flush and a reactive query keep of it. -/

namespace Sys2Proof.Machine

open Sys2Proof.Safety

/-! ### The law of the queue's own items -/

/-- The fields of an entry lie in their ranges (R78). -/
def EntryInRange (e : PreviewEntry) : Prop := e.chainage ≤ Config.maxChainage ∧ -5000 ≤ e.accel ∧ e.accel ≤ 5000

/-- The law of R78 for travel with direction factor d, and the range of the last local sense (R76). -/
structure PreviewLaw (d : Int) (q : PreviewQueue) : Prop where
  length : q.entries.length ≤ 512
  increasing : Increasing d q.entries
  range : ∀ e ∈ q.entries, EntryInRange e
  sense : -5000 ≤ q.senseAccel ∧ q.senseAccel ≤ 5000

/-- The law of R78 on a state: that of the queue, and before the first odometry no role and no entries (R10, R82). -/
theorem queueLaw_iff (s : State) :
    QueueLaw s ↔ PreviewLaw (dirFactor s.pos.dir) s.queue
      ∧ (s.line.upstream = none → s.pos.lead = false ∧ s.queue.entries = []) :=
  ⟨fun ⟨h1, h2, h3, h4, h5⟩ => ⟨⟨h1, h2, h3, h4⟩, h5⟩, fun ⟨⟨h1, h2, h3, h4⟩, h5⟩ => ⟨h1, h2, h3, h4, h5⟩⟩

theorem queueLaw_congr {s t : State} (h : queueView t = queueView s) (hs : QueueLaw s) : QueueLaw t := by
  obtain ⟨hq, hd, hl, hu⟩ : t.queue = s.queue ∧ t.pos.dir = s.pos.dir ∧ t.pos.lead = s.pos.lead
      ∧ t.line.upstream = s.line.upstream := by simpa [queueView] using h
  unfold QueueLaw
  rw [hq, hd, hl, hu]
  exact hs

namespace PreviewLaw

variable {d : Int} {q q' : PreviewQueue}

/-- The law reads the entries and the last local sense only. -/
theorem congr (h : PreviewLaw d q) (he : q'.entries = q.entries) (hs : q'.senseAccel = q.senseAccel) :
    PreviewLaw d q' :=
  ⟨he ▸ h.length, he ▸ h.increasing, he ▸ h.range, hs ▸ h.sense⟩

/-- Fewer entries. -/
theorem sublist (h : PreviewLaw d q) (he : q'.entries.Sublist q.entries) (hs : q'.senseAccel = q.senseAccel) :
    PreviewLaw d q' :=
  ⟨he.length_le.trans h.length, h.increasing.sublist he, fun e hm => h.range e (he.subset hm), hs ▸ h.sense⟩

/-- A queue without entries is in order for either direction. -/
theorem of_empty (h : PreviewLaw d q) (hnone : q.entries = []) (d' : Int) : PreviewLaw d' q :=
  ⟨h.length, by rw [hnone]; exact .nil, h.range, h.sense⟩

theorem flush (h : PreviewLaw d q) (d' : Int) : PreviewLaw d' (flushQueue q) :=
  (h.sublist (q' := flushQueue q) (List.nil_sublist _) rfl).of_empty rfl d'

/-- Every entry moves by the same amount, so the order is kept (R85). -/
theorem shift (h : PreviewLaw d q) (amount : Int) : PreviewLaw d (shiftQueue amount q) where
  length := (List.length_filterMap_le ..).trans h.length
  increasing := by
    refine List.Pairwise.filterMap _ (fun x y hxy x' hx y' hy => ?_) h.increasing
    obtain ⟨hcx, -, -⟩ := shiftEntry_some hx
    obtain ⟨hcy, -, -⟩ := shiftEntry_some hy
    rwa [hcx, hcy, add_sub_add_right_eq_sub]
  range e he := by
    obtain ⟨x, hx, hshift⟩ := List.mem_filterMap.1 he
    obtain ⟨-, hmax, haccel⟩ := shiftEntry_some hshift
    exact ⟨hmax, haccel ▸ (h.range x hx).2⟩
  sense := h.sense

theorem reactive (h : PreviewLaw d q) (point stride : Nat) : PreviewLaw d (reactiveQuery d point stride q).1 := by
  rw [reactiveQuery_eq, countAnswer_eq]
  exact h.sublist (retire_sublist h.increasing point) rfl

theorem storeSense (h : PreviewLaw d q) (accel : Word16) (flags : Byte) :
    PreviewLaw d (Machine.storeSense accel flags q) :=
  ⟨h.length, h.increasing, h.range, limitTo_lower .., limitTo_upper (by decide) _⟩

end PreviewLaw

theorem arrive_senseAccel (d : Int) (e : PreviewEntry) (q : PreviewQueue) :
    (arrive d e q).senseAccel = q.senseAccel := by
  unfold arrive
  (repeat' split) <;> rfl

/-- The arrival rule keeps the law: it appends beyond the newest entry and below 512 entries, or replaces the newest at
its chainage (R83). -/
theorem PreviewLaw.arrive {d : Int} {q : PreviewQueue} {e : PreviewEntry} (h : PreviewLaw d q) (he : EntryInRange e) :
    PreviewLaw d (arrive d e q) := by
  have hsense : -5000 ≤ (Machine.arrive d e q).senseAccel ∧ (Machine.arrive d e q).senseAccel ≤ 5000 := by
    rw [arrive_senseAccel]; exact h.sense
  rcases arrive_entries d e q with hsame | ⟨happend, hroom, hbeyond⟩ | ⟨n, hn, hreplace⟩
  · exact h.congr hsame (arrive_senseAccel ..)
  · refine ⟨?_, ?_, ?_, hsense⟩ <;> rw [happend]
    · rw [List.length_append, List.length_singleton]
      rcases hroom with hnone | hroom
      · simp [hnone]
      · omega
    · exact increasing_append h.increasing hbeyond
    · simpa [or_imp, forall_and] using ⟨h.range, he⟩
  · obtain ⟨old, hold⟩ : ∃ old, q.entries = old ++ [n] := List.getLast?_eq_some_iff.1 hn
    obtain ⟨hlength, hincreasing, hrange, -⟩ := h
    rw [hold] at hlength hincreasing hrange
    rw [hold, List.dropLast_concat] at hreplace
    obtain ⟨hordered, hbeyond⟩ := increasing_concat_iff.1 hincreasing
    refine ⟨?_, ?_, ?_, hsense⟩ <;> rw [hreplace]
    · simpa using hlength
    · exact increasing_concat_iff.2 ⟨hordered, hbeyond⟩
    · intro x hx
      rcases List.mem_append.1 hx with hx | hx
      · exact hrange x (List.mem_append_left _ hx)
      · rw [List.mem_singleton.1 hx]
        exact ⟨(hrange n (by simp)).1, he.2⟩

/-! ### The samples that arrive -/

theorem carriedEntry_inRange (chainage : Word24) (accel : Word16) (flags seq : Byte) :
    EntryInRange (carriedEntry chainage accel flags seq) :=
  ⟨Nat.le_of_lt_succ chainage.isLt, limitTo_lower .., limitTo_upper (by decide) _⟩

/-- The sample of a SENSE frame lies in range: b is saturated, and o turns the clamped acceleration at most round
(R80). -/
theorem originatedEntry_inRange {q : PreviewQueue} (hs : -5000 ≤ q.senseAccel ∧ q.senseAccel ≤ 5000) (s : State) :
    EntryInRange (originatedEntry q (positionQuery s).b (positionQuery s).o) := by
  refine ⟨saturate_le _, ?_⟩
  show -5000 ≤ orientation s.line * q.senseAccel ∧ orientation s.line * q.senseAccel ≤ 5000
  rw [orientation_eq]
  split <;> omega

/-! ### Every block keeps the law -/

theorem lineBlind_queueLaw : LineBlind QueueLaw where
  line _ _ hu _ _ _ _ hs := queueLaw_congr (by simp only [queueView, hu]) hs
  held _ _ hs := hs
  free _ _ hs := hs

theorem timeBlind_queueLaw : TimeBlind QueueLaw where
  now _ _ hs := hs
  pending _ _ hs := hs

/-- A change of the queue that keeps its law and adds nothing to an empty one. -/
theorem queueLaw_withQueue {s : State} {q : PreviewQueue} (hs : QueueLaw s) (hq : PreviewLaw (dirFactor s.pos.dir) q)
    (hnone : s.queue.entries = [] → q.entries = []) : QueueLaw { s with queue := q } :=
  (queueLaw_iff _).2 ⟨hq, fun hu =>
    let ⟨hlead, hempty⟩ := ((queueLaw_iff s).1 hs).2 hu
    ⟨hlead, hnone hempty⟩⟩

theorem queueLaw_take {row : RequestRow} (hm : row ∈ catalogue) (r : Request) {s : State} (hs : QueueLaw s) :
    QueueLaw (row.take r s).1 := by
  rcases ownerSparesQueue_catalogue row hm with rfl | hspares
  · obtain ⟨hq, -⟩ := (queueLaw_iff s).1 hs
    exact queueLaw_congr (queueView_takeRestart r s) (queueLaw_withQueue hs (hq.flush _) fun _ => rfl)
  · exact queueLaw_congr (hspares r s) hs

/-- An ODOMETRY frame keeps the law: a new direction finds the queue empty, at the first arrival, or flushes it
(R5 to R7, R86). -/
theorem queueLaw_takeOdometry (p : Port) (hop : Byte) (x : Word24) (v : Word16) (d : Byte) {s : State}
    (hs : QueueLaw s) : QueueLaw (takeOdometry p hop x v d s) := by
  obtain ⟨hq, hbefore⟩ := (queueLaw_iff s).1 hs
  obtain ⟨hqueue, hdir, -, hup⟩ := by simpa only [queueView, Prod.mk.injEq] using queueView_takeOdometry p hop x v d s
  rw [queueLaw_iff, hqueue, hdir, hup]
  refine ⟨?_, nofun⟩
  split
  · exact hq.flush _
  · next hkeep =>
    cases hu : s.line.upstream with
    | none => exact hq.of_empty (hbefore hu).2 _
    | some up =>
      by_cases hport : up = p
      · have hsame : s.pos.dir = directionOf d := by simpa [arrivalKind, hu, hport, asksFlush] using hkeep
        exact hsame ▸ hq
      · simp [arrivalKind, hu, hport, asksFlush] at hkeep

theorem queueLaw_takeFix (p : Port) (b x : Word24) (a v : Byte) {s : State} (hs : QueueLaw s) :
    QueueLaw (takeFix p b x a v s).1 := by
  obtain ⟨hq, -⟩ := (queueLaw_iff s).1 hs
  rcases queueView_takeFix p b x a v s with hsame | ⟨amount, hshift⟩
  · exact queueLaw_congr hsame hs
  · exact queueLaw_congr hshift (queueLaw_withQueue hs (hq.shift amount) fun hnone => by simp [shiftQueue, hnone])

/-- A sample put to the queue of a node whose upstream port is known (R81, R82). -/
theorem queueLaw_arrive {s : State} {up : Port} {e : PreviewEntry} (hs : QueueLaw s) (hu : s.line.upstream = some up)
    (he : EntryInRange e) : QueueLaw { s with queue := Machine.arrive (dirFactor s.pos.dir) e s.queue } :=
  (queueLaw_iff _).2 ⟨((queueLaw_iff s).1 hs).1.arrive he, fun hnone => absurd (hu.symm.trans hnone) nofun⟩

theorem queueLaw_takeSample (p : Port) {e : PreviewEntry} (he : EntryInRange e) {s : State} (hs : QueueLaw s) :
    QueueLaw (takeSample p e s) := by
  by_cases hacts : actsOnSample s p = true
  · obtain ⟨hu, hl⟩ := (actsOnSample_iff s p).1 hacts
    rw [takeSample_acts hu hl]
    exact queueLaw_arrive hs hu he
  · rw [takeSample, if_neg hacts]
    exact hs

/-- A sample originated by a lead, whose upstream port is therefore known (R10, R81). -/
theorem queueLaw_originate {s : State} {pa : PositionAnswer} (hs : QueueLaw s) (hl : s.pos.lead = true)
    (he : EntryInRange (originatedEntry s.queue pa.b pa.o)) : QueueLaw (originate pa s) := by
  obtain ⟨hq, hbefore⟩ := (queueLaw_iff s).1 hs
  cases hu : s.line.upstream with
  | none => exact absurd (hl.symm.trans (hbefore hu).1) nofun
  | some up =>
    have hcounted : QueueLaw { s with queue := { s.queue with
        lastOriginated := some pa.b, nextSeq := s.queue.nextSeq + 1#8
        originated := count16 s.queue.originated } } := queueLaw_withQueue hs (hq.congr rfl rfl) id
    rw [originate_known hu]
    exact lineBlind_queueLaw.onPort (queueLaw_arrive hcounted hu he)

/-- A SENSE frame keeps the law: its sample is put to the queue by the arrival rule (R81). -/
theorem queueLaw_senseFrame (a : Word16) (f : Byte) {s : State} (hs : QueueLaw s) : QueueLaw (senseFrame a f s) := by
  obtain ⟨hq, -⟩ := (queueLaw_iff s).1 hs
  have hsensed : QueueLaw { s with queue := storeSense a f s.queue } := queueLaw_withQueue hs (hq.storeSense a f) id
  cases hl : s.pos.lead with
  | false =>
    rw [senseFrame_stored fun hlead => absurd (hl.symm.trans hlead) nofun]
    exact hsensed
  | true =>
    cases ho : originates s.queue (positionQuery s).b s.params.strideDm with
    | false =>
      rw [senseFrame_stored fun _ => ho]
      exact hsensed
    | true =>
      rw [senseFrame_originated hl ho]
      exact queueLaw_originate hsensed hl (originatedEntry_inRange (hq.storeSense a f).sense s)

/-- A step keeps the law: the query is made in the direction held, or before the first odometry, when the queue is
empty (R10, R88). -/
theorem queueLaw_runStep {s : State} (hs : QueueLaw s) : QueueLaw (runStep s) := by
  obtain ⟨hq, hbefore⟩ := (queueLaw_iff s).1 hs
  refine queueLaw_congr (queueView_runStep s) ?_
  have hretired (d : Int) (point stride : Nat) (hnone : s.queue.entries = []) :
      (reactiveQuery d point stride s.queue).1.entries = [] := by
    rw [reactiveQuery_eq, countAnswer_eq]
    simp only [hnone]
    rfl
  refine queueLaw_withQueue hs ?_ (hretired _ _ _)
  cases hu : s.line.upstream with
  | none =>
    have hnone := (hbefore hu).2
    exact ((hq.of_empty hnone _).reactive ..).of_empty (hretired _ _ _ hnone) _
  | some up =>
    have hd : queryDirection s = dirFactor s.pos.dir := by simp [queryDirection, hu]
    rw [hd]
    exact hq.reactive ..

/-- A SAMPLE frame keeps the law, by the range of what it carries. -/
theorem queueLaw_exec_sample {port : Port} {h : Header} {chainage : Word24} {accel : Word16} {flags seq : Byte}
    {rest : List Byte} {s t : State} (hs : QueueLaw s)
    (he : exec (.sample port h chainage accel flags seq rest) s = .next t) : QueueLaw t :=
  of_unlessHeld hs he (lineBlind_queueLaw.forward
    (queueLaw_takeSample port (carriedEntry_inRange ..) (lineBlind_queueLaw.countReceived hs)))

/-- Every command keeps the law. -/
theorem queueLaw_exec {c : Instr} {s t : State} (hs : QueueLaw s) (he : exec c s = .next t) : QueueLaw t := by
  by_cases hsample : ∃ p h x a f q rest, c = .sample p h x a f q rest
  · obtain ⟨p, h, x, a, f, q, rest, rfl⟩ := hsample
    exact queueLaw_exec_sample hs he
  · exact lineBlind_queueLaw.exec_of (fun _ hm r _ h => queueLaw_take hm r h)
      (fun _ _ _ _ _ => queueLaw_congr rfl queueLaw_reset)
      (fun _ _ _ _ _ _ _ _ h => queueLaw_takeOdometry _ _ _ _ _ h)
      (fun _ _ h => queueLaw_congr (queueView_watchdogExpiry _) h)
      (fun _ _ _ _ _ _ _ _ _ h => queueLaw_takeFix _ _ _ _ _ h)
      (fun _ _ _ _ _ _ _ hc => absurd ⟨_, _, _, _, _, _, _, hc⟩ hsample)
      (fun _ _ _ _ h => queueLaw_senseFrame _ _ h)
      (fun _ _ _ _ _ h => queueLaw_congr (queueView_receiveAck ..) h)
      (fun _ _ h => queueLaw_runStep h)
      (fun _ _ h => queueLaw_congr (queueView_verifyCompletes _) h) hs he

/-- Settles O11: every command keeps the law, so every step does. -/
theorem stepKeepsQueueLaw : Obligations.StepKeepsQueueLaw := fun _ _ hs he =>
  lineBlind_queueLaw.step timeBlind_queueLaw (fun _ _ _ => queueLaw_exec) hs he

end Sys2Proof.Machine

/-! SUPPORT. The idle block (log entry 1): the timer events due, and what it does with them. -/

namespace Sys2Proof.Machine

open Sys2Proof.Safety

/-! ### The due events -/

theorem reached_iff (s : State) (x : Option Nat) : reached s x = true ↔ ∃ t, x = some t ∧ t ≤ s.clock.now := by
  cases x <;> simp [reached]

/-- The watchdog is due while RUNNING, odo_lost_ms after the arrival instant (R13). -/
theorem watchdogDue_eq_some (s : State) (t : Nat) :
    watchdogDue s = some t ↔ s.pos.watchdog = .running
      ∧ ∃ a, s.clock.arrival = some a ∧ a + s.params.odoLostMs * 2000 = t := by
  cases hw : s.pos.watchdog <;> simp [watchdogDue, hw, Config.ticksPerMs]

/-- An event is due when the part is not held and the event's own timer has run out (R97, R13, R53, R176). -/
theorem mem_dueEvents (s : State) (c : Instr) :
    c ∈ dueEvents s ↔ s.held = false ∧
      (c = .stepExpiry ∧ reached s (some s.clock.stepDue) = true ∨ c = .odoLost ∧ reached s (watchdogDue s) = true
        ∨ c = .verifyCompletion ∧ reached s (s.store.verifier.map Verification.dueBy) = true) := by
  have hsome (b : Bool) (x : Instr) : c ∈ (if b then [x] else []) ↔ c = x ∧ b = true := by cases b <;> simp
  unfold dueEvents
  cases s.held
  · simp only [Bool.false_eq_true, if_false, List.mem_append, hsome, or_assoc, true_and]
  · simp

/-! ### The block -/

theorem step_of_idle {s : State} (h : s.pending = []) : step s = idle s := by simp only [step, h]

/-- Among several due events one of them is taken, by a free value (log entry 1). -/
theorem idle_several {s : State} (h : 2 ≤ (dueEvents s).length) :
    ∃ c ∈ dueEvents s, idle s = exec c { s with freeCount := s.freeCount + 1 } := by
  cases hd : dueEvents s with
  | nil => simp [hd] at h
  | cons c rest =>
    cases rest with
    | nil => simp [hd] at h
    | cons c' rest =>
      have hlt : Config.eventChoice s.freeCount % (c :: c' :: rest).length < (c :: c' :: rest).length :=
        Nat.mod_lt _ (Nat.succ_pos _)
      refine ⟨(c :: c' :: rest).getD (Config.eventChoice s.freeCount % (c :: c' :: rest).length) c, ?_,
        by simp only [idle, hd]⟩
      rw [List.getD_eq_getElem _ _ hlt]
      exact List.getElem_mem hlt

/-- Settles O3. -/
theorem emptyQueueIdles : Obligations.EmptyQueueIdles := by
  intro s
  refine ⟨?_, ?_, ?_, fun c hc => ?_, fun hp hd => ?_, fun c hp hd => ?_, fun hp hd => ?_⟩
  · simp [mem_dueEvents, reached]
  · simp [mem_dueEvents, reached_iff, watchdogDue_eq_some, and_assoc]
  · simp [mem_dueEvents, reached_iff]
  · exact ((mem_dueEvents s c).1 hc).2.imp And.left (Or.imp And.left And.left)
  · rw [step_of_idle hp, idle, hd]
    rfl
  · simp only [step_of_idle hp, idle, hd]
  · rw [step_of_idle hp]
    exact idle_several hd

end Sys2Proof.Machine

/-! SUPPORT. The stages of a step (R100 to R113), in the modes that tilt and in those that do not. -/

namespace Sys2Proof.Machine

open Sys2Proof.Safety

/-! ### The sources of a mode that tilts -/

theorem tilting_iff (m : Mode) : tilting m = true ↔ m = .reactive ∨ m = .predictive := by simp [tilting]

theorem formPredictive_absent {f : RouteForm} (h : f = .unavailable ∨ f = .noSection) (m : Mode) (v : Nat) :
    formPredictive m v f = none := by
  rcases h with rfl | rfl <;> rfl

theorem compensation_absent {f : RouteForm} (h : f = .unavailable ∨ f = .noSection) (p : Params) :
    compensation p f = p.compPct := by
  rcases h with rfl | rfl <;> rfl

/-- The predictive acceleration is limited to ±3,000 (R100). -/
theorem formPredictive_onSection {m : Mode} (hm : tilting m = true) (v : Nat) (geo : PointGeometry) :
    formPredictive m v (.onSection geo) = some (max (-3000) (min 3000
      (roundDiv ((v : Int) ^ 2 * geo.kappa) 10000000 - roundDiv (9807 * geo.cant) 1500))) := by
  rw [sq]
  exact if_pos hm

/-- A reactive answer with a value is limited to ±3,000, and its source available (R101, R105). -/
theorem reactive_valued {m : Mode} (hm : tilting m = true) {re : ReactiveAnswer} {a : Int}
    (h : (∃ c1 c2, re = .interpolated a c1 c2) ∨ ∃ c, re = .held a c) :
    formReactive m re = some (max (-3000) (min 3000 a)) ∧ reactiveAvailability m re = .available := by
  rcases h with ⟨c1, c2, rfl⟩ | ⟨c, rfl⟩ <;> simp only [formReactive, reactiveAvailability, hm] <;> exact ⟨rfl, rfl⟩

/-- An available predictive source has an acceleration (R100, R104). -/
theorem predictive_formed {m : Mode} {f : RouteForm} {latch : Bool} (v : Nat)
    (h : predictiveAvailability m f latch = .available) : ∃ a, formPredictive m v f = some a := by
  unfold predictiveAvailability at h
  split at h
  · cases h
  · next hm =>
    have hm : tilting m = true := (tilting_iff m).2 (.inr (not_not.1 hm))
    split at h
    · cases h
    · cases h
    · exact ⟨_, formPredictive_onSection hm v _⟩

/-- An available reactive source has an acceleration (R101, R105). -/
theorem reactive_formed {m : Mode} {re : ReactiveAnswer} (h : reactiveAvailability m re = .available) :
    ∃ a, formReactive m re = some a := by
  unfold reactiveAvailability at h
  split at h
  · cases h
  · next hm =>
    have hm : tilting m = true := by simpa using hm
    cases re with
    | interpolated x c1 c2 => exact ⟨_, (reactive_valued hm (.inl ⟨c1, c2, rfl⟩)).1⟩
    | held x c => exact ⟨_, (reactive_valued hm (.inr ⟨c, rfl⟩)).1⟩
    | gap => cases h
    | invalid => cases h

/-- The availability of the predictive source, row by row (R104). -/
theorem predictiveAvailability_eq {m : Mode} (hm : tilting m = true) (f : RouteForm) (latch : Bool) :
    predictiveAvailability m f latch =
      if m = .reactive then .mode else if f = .unavailable then .position else if f = .noSection then .noSection
      else if latch then .disagree else .available := by
  rcases (tilting_iff m).1 hm with rfl | rfl
  · rfl
  · cases f <;> rfl

/-! ### The blend (R106 to R108) -/

/-- The angle of a source as the blend takes it: none unless the source is available (R106). -/
def angleIf (available : Prop) [Decidable available] (theta : Option Int) : Option Int :=
  if available then theta else none

/-- With an angle of either source a step does not fade (R107). -/
theorem blend_present {tp tr : Option Int} (h : tp ≠ none ∨ tr ≠ none) (p : Params) (thetaB : Int) (fade : Nat) :
    (blend p thetaB fade tp tr).2 = (0, false) := by
  cases tp with
  | some x => cases tr <;> rfl
  | none =>
    cases tr with
    | some y => rfl
    | none => exact absurd h (by simp)

/-- Without an angle θ_b is kept for hold_steps steps, and is then 0 (R107). -/
theorem blend_absent (p : Params) (thetaB : Int) (fade : Nat) :
    blend p thetaB fade none none = if fade < p.holdSteps then (thetaB, fade + 1, true) else (0, fade, true) := rfl

/-! ### The stages -/

theorem stagesOf_tilting {m : Mode} (hm : tilting m = true) (p : Params) (x : DemandUnit) (v : Nat) (ra : RouteAnswer)
    (re : ReactiveAnswer) : stagesOf p m x v ra re = tiltStages p m x v ra re := if_pos hm

/-- In the modes that do not tilt the stages rest (R113). -/
theorem stagesOf_resting {m : Mode} (hr : m ≠ .reactive) (hp : m ≠ .predictive) (p : Params) (x : DemandUnit) (v : Nat)
    (ra : RouteAnswer) (re : ReactiveAnswer) : stagesOf p m x v ra re = idleStages p ra.form :=
  if_neg fun h => ((tilting_iff m).1 h).elim hr hp

section
variable {p : Params} {m : Mode} {x : DemandUnit} {v : Nat} {ra : RouteAnswer} {re : ReactiveAnswer}

/-- The blend takes the angles of the available sources (R106, R107). -/
theorem tiltStages_blend {g : Stages} (hg : g = tiltStages p m x v ra re) :
    (g.thetaB, g.fade, g.fading) = blend p x.thetaB x.fadeCount (angleIf (g.predictive = .available) g.thetaP)
      (angleIf (g.reactive = .available) g.thetaR) := by
  subst hg; rfl

/-- So does the run count (R108). -/
theorem tiltStages_run {g : Stages} (hg : g = tiltStages p m x v ra re) :
    g.run = disagreement p x.runCount (angleIf (g.predictive = .available) g.thetaP)
      (angleIf (g.reactive = .available) g.thetaR) := by
  subst hg; rfl

/-- An available source has an angle (R103). -/
theorem tiltStages_angles {g : Stages} (hg : g = tiltStages p m x v ra re) :
    (g.predictive = .available → g.thetaP ≠ none) ∧ (g.reactive = .available → g.thetaR ≠ none) := by
  subst hg
  refine ⟨fun h => ?_, fun h => ?_⟩
  · obtain ⟨a, ha⟩ := predictive_formed v h
    simp only [tiltStages, ha]
    nofun
  · obtain ⟨a, ha⟩ := reactive_formed h
    simp only [tiltStages, ha]
    nofun

/-- The demand is gated by the speed, then limited to ±L_eff (R111, R112). -/
theorem tiltStages_limit {g : Stages} (hg : g = tiltStages p m x v ra re) :
    g.gated = decide (v < p.vMin) ∧ g.target = clampTo ra.lEff (if v < p.vMin then 0 else g.thetaB)
      ∧ g.limited = limitFlag ra.lEff (if v < p.vMin then 0 else g.thetaB) := by
  subst hg
  simp only [tiltStages, gatedFlag, decide_eq_true_eq, and_self]

end

/-- Settles O57: at rest by definition, and in the modes that tilt by which of the two sources is available. -/
theorem stagesBlendAndLimit : Obligations.StagesBlendAndLimit := by
  intro p m x v ra re g
  have hdef : g = stagesOf p m x v ra re := rfl
  clear_value g
  intro angle demand
  refine ⟨fun hr hp => ?_, fun htilts => ?_⟩
  · rw [stagesOf_resting hr hp] at hdef
    subst hdef
    exact ⟨rfl, rfl, rfl, rfl, rfl, rfl, rfl, rfl, rfl, rfl, rfl, rfl, rfl⟩
  have hm : tilting m = true := (tilting_iff m).2 htilts
  rw [stagesOf_tilting hm] at hdef
  have hblend := tiltStages_blend hdef
  have hrun := tiltStages_run hdef
  obtain ⟨hpred, hreact⟩ := tiltStages_angles hdef
  obtain ⟨hgated, htarget, hlimited⟩ := tiltStages_limit hdef
  refine ⟨fun geo hf => ?_, fun hf => ?_, fun a ha => ?_, fun hre => ?_, fun hre => ?_, ?_, ?_, ?_,
    fun tp tr hp hr htp htr => ?_, fun tp hp hr htp => ?_, fun tr hp hr htr => ?_, fun hor => ?_, fun hp hr => ?_,
    ?_, htarget, ?_⟩
  · subst hdef
    exact ⟨by simp only [tiltStages, hf, compensation], by simp only [tiltStages, hf, formPredictive_onSection hm]⟩
  · subst hdef
    exact ⟨compensation_absent hf p, formPredictive_absent hf m v⟩
  · subst hdef
    exact reactive_valued hm ha
  · subst hdef hre
    exact ⟨rfl, by simp only [tiltStages, reactiveAvailability, hm]; rfl⟩
  · subst hdef hre
    exact ⟨rfl, by simp only [tiltStages, reactiveAvailability, hm]; rfl⟩
  · subst hdef; rfl
  · subst hdef; rfl
  · subst hdef
    exact predictiveAvailability_eq hm ra.form x.latch
  · simp only [angleIf, if_pos hp, if_pos hr, htp, htr] at hblend hrun
    exact ⟨congrArg Prod.fst hblend, hrun⟩
  · simp only [angleIf, if_pos hp, if_neg hr, htp] at hblend hrun
    exact ⟨congrArg Prod.fst hblend, hrun⟩
  · simp only [angleIf, if_neg hp, if_pos hr, htr] at hblend hrun
    exact ⟨congrArg Prod.fst hblend, hrun⟩
  · have hpresent : angleIf (g.predictive = .available) g.thetaP ≠ none
        ∨ angleIf (g.reactive = .available) g.thetaR ≠ none := by
      refine hor.imp (fun h => ?_) (fun h => ?_)
      · rw [angleIf, if_pos h]; exact hpred h
      · rw [angleIf, if_pos h]; exact hreact h
    have hsteady := (congrArg Prod.snd hblend).trans (blend_present hpresent ..)
    exact ⟨congrArg Prod.fst hsteady, congrArg Prod.snd hsteady⟩
  · simp only [angleIf, if_neg hp, if_neg hr, blend_absent] at hblend hrun
    refine ⟨?_, hrun, fun hheld => ?_, fun hgone => ?_⟩
    · split at hblend <;> exact congrArg (·.2.2) hblend
    · rw [if_pos hheld] at hblend
      exact ⟨congrArg Prod.fst hblend, congrArg (·.2.1) hblend⟩
    · rw [if_neg (Nat.not_lt.2 hgone)] at hblend
      exact ⟨congrArg Prod.fst hblend, congrArg (·.2.1) hblend⟩
  · rw [hgated, decide_eq_true_eq]
  · rw [hlimited, limitFlag, bne_iff_ne, ← htarget]

end Sys2Proof.Machine

/-! SUPPORT. What can move the previous command and the stroke table (R115 to R117, R126, R150): a step, an
acknowledgement, STROKE LOAD and device reset. -/

namespace Sys2Proof.Machine

open Sys2Proof.Safety

/-! ### Actions that leave the command and the stroke table alone -/

/-- The previous command and the stroke table of a state. -/
abbrev commandView (s : State) : Option Int × List Int := (s.mode.prevCommand, s.strokes)

@[simp] theorem commandView_sendReport (r : Report) (s : State) : commandView (sendReport r s) = commandView s := by
  rw [sendReport_eq]

@[simp] theorem commandView_answerHold (o : SettleOutcome) (s : State) :
    commandView (answerHold o s) = commandView s := by
  rw [answerHold_eq]

/-- A change of mode leaves them alone when the mode controller's new items do. -/
theorem commandView_changeMode {m : ModeController} {s : State} (reason : ModeReason)
    (h : m.prevCommand = s.mode.prevCommand) : commandView (changeMode reason m s) = commandView s := by
  rw [changeMode_eq]
  exact congrArg (·, s.strokes) h

@[simp] theorem commandView_takeFault (cause : FaultCause) (s : State) :
    commandView (takeFault cause s) = commandView s := by
  have hprev : (takeFault cause s).mode.prevCommand = s.mode.prevCommand := by
    rw [takeFault_mode]
    split <;> rfl
  have hstrokes : (takeFault cause s).strokes = s.strokes := by rw [takeFault_eq]
  rw [commandView, hprev, hstrokes]

@[simp] theorem commandView_auditAnswer (seq : Byte) (stroke angle : Int) (status : AckStatus) (s : State) :
    commandView (auditAnswer seq stroke angle status s) = commandView s := by
  rw [auditAnswer_eq]

@[simp] theorem commandView_auditHandover (sum : StepSummary) (d : Drive) (s : State) :
    commandView (auditHandover sum d s) = commandView s := by
  rw [auditHandover_eq]

@[simp] theorem commandView_runStages (g : Stages) (pa : PositionAnswer) (ra : RouteAnswer) (s : State) :
    commandView (runStages g pa ra s) = commandView s := by
  rw [runStages_eq]

theorem commandView_judgeMiss (s : State) : commandView (judgeMiss s) = commandView s := by
  unfold judgeMiss
  split
  · split
    · rfl
    · exact commandView_takeFault ..
  · rfl

theorem commandView_watchdogExpires (s : State) : commandView (watchdogExpires s) = commandView s :=
  commandView_takeFault ..

theorem commandView_watchdogExpiry (s : State) : commandView (watchdogExpiry s) = commandView s := by
  unfold watchdogExpiry
  split
  · rfl
  · exact commandView_watchdogExpires _

theorem commandView_takeOdometry (p : Port) (hop : Byte) (x : Word24) (v : Word16) (d : Byte) (s : State) :
    commandView (takeOdometry p hop x v d s) = commandView s := by
  unfold takeOdometry
  dsimp only
  split
  · exact commandView_takeFault ..
  · rfl

theorem commandView_takeFix (p : Port) (b x : Word24) (a v : Byte) (s : State) :
    commandView (takeFix p b x a v s).1 = commandView s := by
  unfold takeFix leadFix followFix
  (repeat' split) <;> rfl

theorem commandView_takeSample (p : Port) (e : PreviewEntry) (s : State) :
    commandView (takeSample p e s) = commandView s := by
  unfold takeSample
  split <;> rfl

theorem commandView_senseFrame (a : Word16) (f : Byte) (s : State) :
    commandView (senseFrame a f s) = commandView s := by
  have horiginate (pa : PositionAnswer) (x : State) : commandView (originate pa x) = commandView x := by
    unfold originate
    split <;> rfl
  unfold senseFrame
  dsimp only
  split
  · split
    · exact horiginate ..
    · rfl
  · rfl

theorem commandView_verifyCompletes (s : State) : commandView (verifyCompletes s) = commandView s := by
  unfold verifyCompletes
  split
  · rfl
  · exact commandView_sendReport ..

theorem commandView_applyParam (x : Param) (v : Int) (s : State) : commandView (applyParam x v s) = commandView s := by
  have hset : commandView (setParam x v s) = commandView s := by cases x <;> rfl
  rcases applyParam_cases x v s with h | ⟨-, -, -, h⟩ <;> rw [h]
  · exact hset
  · exact (commandView_watchdogExpires _).trans hset

/-! ### The owners of the requests -/

/-- An owner's action on its request leaves the previous command and the stroke table alone. -/
def OwnerSparesCommand (take : Request → State → State × Answer) : Prop :=
  ∀ r s, commandView (take r s).1 = commandView s

theorem ownerSparesCommand_statusRead : OwnerSparesCommand takeStatusRead := by
  intro r s
  unfold takeStatusRead
  (repeat' split) <;> rfl

theorem ownerSparesCommand_paramSet : OwnerSparesCommand takeParamSet := by
  intro r s
  unfold takeParamSet
  split
  · rfl
  · split
    · rfl
    · split
      · rfl
      · exact commandView_applyParam ..

theorem ownerSparesCommand_paramRead : OwnerSparesCommand takeParamRead := by
  intro r s
  unfold takeParamRead
  (repeat' split) <;> rfl

theorem applyModeSet_prevCommand (t : ChosenMode) (m : ModeController) :
    (applyModeSet t m).prevCommand = m.prevCommand := by
  unfold applyModeSet
  split <;> rfl

theorem ownerSparesCommand_modeSet : OwnerSparesCommand takeModeSet := by
  intro r s
  unfold takeModeSet
  split
  · rfl
  · split
    · rfl
    · split_ifs
      · rfl
      · rfl
      · rfl
      · exact commandView_changeMode _ (applyModeSet_prevCommand ..)

theorem ownerSparesCommand_descWrite : OwnerSparesCommand takeDescWrite := by
  intro r s
  unfold takeDescWrite
  dsimp only
  (repeat' split) <;> rfl

theorem ownerSparesCommand_descClear : OwnerSparesCommand takeDescClear := by
  intro r s
  unfold takeDescClear
  dsimp only
  (repeat' split) <;> rfl

theorem ownerSparesCommand_descRead : OwnerSparesCommand takeDescRead := by
  intro r s
  unfold takeDescRead
  dsimp only
  (repeat' split) <;> rfl

theorem ownerSparesCommand_sectionSelect : OwnerSparesCommand takeSectionSelect := by
  intro r s
  unfold takeSectionSelect
  dsimp only
  (repeat' split) <;> rfl

theorem ownerSparesCommand_loadHead : OwnerSparesCommand takeLoadHead := by
  intro r s
  unfold takeLoadHead
  (repeat' split) <;> rfl

theorem ownerSparesCommand_loadTail : OwnerSparesCommand takeLoadTail := by
  intro r s
  unfold takeLoadTail
  (repeat' split) <;> rfl

theorem ownerSparesCommand_bankOpen : OwnerSparesCommand takeBankOpen := by
  intro r s
  unfold takeBankOpen
  (repeat' split) <;> rfl

theorem ownerSparesCommand_bankClose : OwnerSparesCommand takeBankClose := by
  intro r s
  unfold takeBankClose
  (repeat' split) <;> simp

theorem ownerSparesCommand_bankErase : OwnerSparesCommand takeBankErase := by
  intro r s
  unfold takeBankErase
  (repeat' split) <;> rfl

theorem ownerSparesCommand_recordRead : OwnerSparesCommand takeRecordRead := by
  intro r s
  unfold takeRecordRead
  (repeat' split) <;> rfl

theorem ownerSparesCommand_hold : OwnerSparesCommand takeHold := by
  intro r s
  unfold takeHold
  split_ifs
  · rfl
  · rfl
  · exact commandView_changeMode (s := { s with holdReply := some _ }) _ rfl

theorem ownerSparesCommand_release : OwnerSparesCommand takeRelease := by
  intro r s
  unfold takeRelease
  split
  · refine (commandView_answerHold ..).trans ?_
    split
    · exact commandView_changeMode _ rfl
    · rfl
  · rfl

theorem ownerSparesCommand_resume : OwnerSparesCommand takeResume := by
  intro r s
  unfold takeResume
  split_ifs
  · rfl
  · rfl
  · exact commandView_changeMode _ rfl
  · exact commandView_changeMode _ rfl

theorem ownerSparesCommand_auditArm : OwnerSparesCommand takeAuditArm := by
  intro r s
  unfold takeAuditArm
  (repeat' split) <;> rfl

theorem commandView_maskEffects (before after : Features) (s : State) :
    commandView (maskEffects before after s) = commandView s := by
  have hpred :
      commandView (if after.predictive && !before.predictive then maskPredictive s else s) = commandView s := by
    split
    · exact commandView_changeMode _ rfl
    · rfl
  have haudit (x : State) : commandView (if after.audit && !before.audit then maskAudit x else x) = commandView x := by
    split <;> rfl
  have hload (x : State) : commandView (if after.load && !before.load then maskLoad x else x) = commandView x := by
    split <;> rfl
  exact (hload _).trans ((haudit _).trans hpred)

theorem ownerSparesCommand_featureMask : OwnerSparesCommand takeFeatureMask := by
  intro r s
  unfold takeFeatureMask
  split
  · rfl
  · exact commandView_maskEffects ..

theorem ownerSparesCommand_restart : OwnerSparesCommand takeRestart := by
  intro r s
  have hmode (x : State) : commandView (restartMode x) = commandView x := by
    refine (commandView_changeMode _ ?_).trans (commandView_answerHold .faulted x)
    rw [answerHold_eq]
    rfl
  exact hmode (restartStore { s with queue := flushQueue s.queue, demand := restartedDemand s.demand })

/-- STROKE LOAD apart, every owner of requests leaves the previous command and the stroke table alone. -/
theorem ownerSparesCommand_catalogue : ∀ row ∈ catalogue, row = strokeLoadRow ∨ OwnerSparesCommand row.take := by
  simp only [catalogue, List.forall_mem_cons]
  exact ⟨.inr ownerSparesCommand_statusRead, .inr ownerSparesCommand_paramSet, .inr ownerSparesCommand_paramRead,
    .inr ownerSparesCommand_modeSet, .inr ownerSparesCommand_descWrite, .inr ownerSparesCommand_descClear,
    .inr ownerSparesCommand_descRead, .inr ownerSparesCommand_loadHead, .inr ownerSparesCommand_loadTail,
    .inr ownerSparesCommand_bankOpen, .inr ownerSparesCommand_bankClose, .inr ownerSparesCommand_bankErase,
    .inr ownerSparesCommand_recordRead, .inl trivial, .inr fun _ _ => rfl, .inr ownerSparesCommand_sectionSelect,
    .inr ownerSparesCommand_hold, .inr ownerSparesCommand_release, .inr ownerSparesCommand_resume,
    .inr ownerSparesCommand_auditArm, .inr ownerSparesCommand_featureMask, .inr ownerSparesCommand_restart, nofun⟩

/-! ### The command of a step (R115 to R117, R121) -/

/-- A command is formed exactly when the previous command is known. -/
theorem formCommand_orElse (m : ModeController) (target : Int) (rs : Nat) :
    ((formCommand m target rs).1.orElse fun _ => m.prevCommand) = (formCommand m target rs).1 := by
  cases hp : m.prevCommand with
  | none => simp only [formCommand, hp]; rfl
  | some c => by_cases hh : m.mode = .hold <;> simp [formCommand, hp, hh]

theorem formCommand_unknown {m : ModeController} (h : m.prevCommand = none) (target : Int) (rs : Nat) :
    formCommand m target rs = (none, false) := by
  simp only [formCommand, h]

theorem formCommand_hold {m : ModeController} {c : Int} (h : m.prevCommand = some c) (hm : m.mode = .hold)
    (target : Int) (rs : Nat) : formCommand m target rs = (some c, false) := by
  simp only [formCommand, h, hm, if_true]

theorem formCommand_moved {m : ModeController} {c : Int} (h : m.prevCommand = some c) (hm : m.mode ≠ .hold)
    (target : Int) (rs : Nat) : formCommand m target rs = (some (moveToward c target rs), rateFlag c target rs) := by
  simp only [formCommand, h, hm, if_false]

theorem moveToward_near {prev target : Int} {rs : Nat} (h : (target - prev).natAbs ≤ rs) :
    moveToward prev target rs = target ∧ rateFlag prev target rs = false := by
  have hrate : rateFlag prev target rs = false := decide_eq_false (Nat.not_lt.2 h)
  exact ⟨by simp only [moveToward, hrate, Bool.false_eq_true, if_false], hrate⟩

theorem moveToward_far {prev target : Int} {rs : Nat} (h : ¬ (target - prev).natAbs ≤ rs) :
    moveToward prev target rs = (if prev < target then prev + rs else prev - rs) ∧ rateFlag prev target rs = true := by
  have hrate : rateFlag prev target rs = true := decide_eq_true (Nat.not_le.1 h)
  exact ⟨by simp only [moveToward, hrate, if_true], hrate⟩

/-- The move is by at most the rate step. -/
theorem moveToward_close (prev target : Int) (rs : Nat) : (moveToward prev target rs - prev).natAbs ≤ rs := by
  by_cases h : (target - prev).natAbs ≤ rs
  · rw [(moveToward_near h).1]
    exact h
  · rw [(moveToward_far h).1]
    split <;> omega

/-- The move does not pass the target. -/
theorem moveToward_between (prev target : Int) (rs : Nat) :
    min prev target ≤ moveToward prev target rs ∧ moveToward prev target rs ≤ max prev target := by
  by_cases h : (target - prev).natAbs ≤ rs
  · rw [(moveToward_near h).1]
    omega
  · rw [(moveToward_far h).1]
    split <;> omega

/-- Of the parts of a step only the forming of the command moves the previous command (R98, R117). -/
theorem commandView_concludeStep (pa : PositionAnswer) (ra : RouteAnswer) (re : ReactiveAnswer) (s : State) :
    commandView (concludeStep pa ra re s) =
      ((formCommand s.mode (pa.o * (stagesOf s.params s.mode.mode s.demand pa.v ra re).target) (rateStep s.params)).1,
        s.strokes) := by
  let g := stagesOf s.params s.mode.mode s.demand pa.v ra re
  let command := (formCommand s.mode (pa.o * g.target) (rateStep s.params)).1
  calc commandView (concludeStep pa ra re s)
      = commandView (judgeMiss _) := commandView_auditHandover ..
    _ = commandView (takeCommand command (runStages g pa ra s)) := commandView_judgeMiss _
    _ = (command, s.strokes) := by
      rw [takeCommand_eq, runStages_eq]
      exact congrArg (·, s.strokes) (formCommand_orElse ..)

/-- The position answer of a step (R98). -/
def stepPosition (s : State) : PositionAnswer := positionQuery (beginStep s)

/-- The geometry query of a step: the state after it and the route answer (R98). -/
def stepRoute (s : State) : State × RouteAnswer := geometryQuery (stepPosition s) (beginStep s)

/-- The reactive query of a step: the queue after it and the answer (R98). -/
def stepReactiveQuery (s : State) : PreviewQueue × ReactiveAnswer :=
  reactiveQuery (stepPosition s).d (stepPosition s).q s.params.strideDm s.queue

/-- The stages of a step on the answers of its three queries (R98). -/
def stepStages (s : State) : Stages :=
  stagesOf s.params s.mode.mode s.demand (stepPosition s).v (stepRoute s).2 (stepReactiveQuery s).2

/-- The target of a step in the car's frame (R114). -/
def stepTarget (s : State) : Int := (stepPosition s).o * (stepStages s).target

/-- The command of a step, with RATE (R115 to R117). -/
def stepCommand (s : State) : Option Int × Bool := formCommand s.mode (stepTarget s) (rateStep s.params)

theorem commandView_runStep (s : State) :
    commandView (runStep s) = ((stepCommand s).1, s.strokes) :=
  commandView_concludeStep ..

theorem routeAnswer_lEff_le (p : Params) (form : RouteForm) (active : Nat) (kind : Option SectionKind)
    (res : SearchResult) : (routeAnswer p form active kind res).lEff ≤ p.tiltLimit := by
  show effectiveLimit p res ≤ _
  unfold effectiveLimit
  split
  · exact min_le_left _ _
  · exact le_refl _
  · exact min_le_left _ _

/-- L_eff is at most tilt_limit (R73). -/
theorem geometryQuery_lEff_le (pa : PositionAnswer) (s : State) : (geometryQuery pa s).2.lEff ≤ s.params.tiltLimit := by
  rw [geometryQuery_answer]
  split
  · unfold answerOn
    split
    · exact routeAnswer_lEff_le ..
    · split <;> exact routeAnswer_lEff_le ..
  · exact routeAnswer_lEff_le ..

/-- The demand is limited to ±L_eff (R112); at rest it is 0 (R113). -/
theorem stagesOf_target_natAbs_le (p : Params) (m : Mode) (x : DemandUnit) (v : Nat) (ra : RouteAnswer)
    (re : ReactiveAnswer) : (stagesOf p m x v ra re).target.natAbs ≤ ra.lEff := by
  unfold stagesOf
  split
  · exact clampTo_natAbs_le _ _
  · exact Nat.zero_le _

/-- The target of a step lies within ±tilt_limit (R73, R112, R114). -/
theorem stepTarget_natAbs_le (s : State) : (stepTarget s).natAbs ≤ s.params.tiltLimit := by
  have horientation : (stepPosition s).o.natAbs = 1 := by
    show (orientation _).natAbs = 1
    rw [orientation_eq]
    split <;> rfl
  rw [stepTarget, Int.natAbs_mul, horientation, one_mul]
  exact (stagesOf_target_natAbs_le ..).trans (geometryQuery_lEff_le _ (beginStep s))

/-! ### An acknowledgement (R126) -/

theorem commandView_judgeCentring (angle : Int) (s : State) : commandView (judgeCentring angle s) = commandView s := by
  unfold judgeCentring
  split
  · exact commandView_changeMode _ rfl
  · rfl

theorem commandView_judgeSettle (angle : Int) (s : State) : commandView (judgeSettle angle s) = commandView s := by
  unfold judgeSettle
  split_ifs
  · rfl
  · rfl
  · exact commandView_answerHold ..
  · rfl

/-- The mode controller notes an acknowledgement before it judges it (R126). -/
theorem commandView_takeAck (kind : DriveKind) (angle : Int) (status : AckStatus) (s : State) :
    commandView (takeAck kind angle status s) = ((noteAck kind angle status s.mode).prevCommand, s.strokes) := by
  unfold takeAck
  split_ifs
  · exact commandView_takeFault ..
  · rfl
  · exact (commandView_judgeSettle ..).trans (commandView_judgeCentring ..)

theorem noteAck_prevCommand (kind : DriveKind) (angle : Int) (status : AckStatus) (m : ModeController) :
    (noteAck kind angle status m).prevCommand = m.prevCommand
      ∨ m.prevCommand = none ∧ (noteAck kind angle status m).prevCommand = some angle := by
  unfold noteAck
  dsimp only
  split
  · next h =>
    rw [Bool.and_eq_true, Option.isNone_iff_eq_none] at h
    exact .inr ⟨h.2, rfl⟩
  · exact .inl rfl

theorem commandView_takeAnswer (x : Drive) (raw : Int) (status : AckStatus) (s : State) :
    commandView (takeAnswer x raw status s) =
      ((noteAck x.kind (toAngle s.strokes (clampTo 9999 raw)) status s.mode).prevCommand, s.strokes) :=
  (commandView_auditAnswer ..).trans (commandView_takeAck ..)

/-- An acknowledgement leaves a known command and the stroke table alone; an unknown command it leaves unknown, or makes
known by the angle of its stroke (R122, R126). -/
theorem commandView_receiveAck (q : Byte) (x : Word16) (st : Byte) (s : State) :
    commandView (receiveAck q x st s) = commandView s
      ∨ s.mode.prevCommand = none ∧
        commandView (receiveAck q x st s) = (some (toAngle s.strokes (clampTo 9999 x.toInt)), s.strokes) := by
  unfold receiveAck
  split
  · rw [commandView_takeAnswer]
    exact (noteAck_prevCommand ..).imp (congrArg (·, s.strokes)) (And.imp_right (congrArg (·, s.strokes)))
  · exact .inl rfl

/-! ### The previous command over a command -/

theorem lineBlind_prevCommand (Q : Option Int → Prop) : LineBlind fun s => Q s.mode.prevCommand where
  line _ _ _ _ _ _ _ hs := hs
  held _ _ hs := hs
  free _ _ hs := hs

/-- Of the owners of requests only STROKE LOAD touches either, and it leaves the previous command alone (R150). -/
theorem prevCommand_takeStrokeLoad (r : Request) (s : State) :
    (takeStrokeLoad r s).1.mode.prevCommand = s.mode.prevCommand := by
  unfold takeStrokeLoad
  dsimp only
  (repeat' split) <;> rfl

theorem prevCommand_take {row : RequestRow} (hm : row ∈ catalogue) (r : Request) (s : State) :
    (row.take r s).1.mode.prevCommand = s.mode.prevCommand := by
  rcases ownerSparesCommand_catalogue row hm with rfl | hspares
  · exact prevCommand_takeStrokeLoad r s
  · exact congrArg Prod.fst (hspares r s)

/-- A command other than a step and device reset keeps what an acknowledgement, if it is one, keeps of the previous
command. -/
theorem prevCommand_exec {Q : Option Int → Prop} {c : Instr} {s t : State}
    (hreset : ∀ e, c ≠ .deviceReset e)
    (hstep : c = .stepExpiry → ∀ s, Q s.mode.prevCommand → Q (runStep s).mode.prevCommand)
    (hack : ∀ q x st, c = .driveAck q x st → ∀ s, Q s.mode.prevCommand → Q (receiveAck q x st s).mode.prevCommand)
    (hs : Q s.mode.prevCommand) (he : exec c s = .next t) : Q t.mode.prevCommand := by
  have hkept {u w : State} (h : commandView w = commandView u) (hu : Q u.mode.prevCommand) : Q w.mode.prevCommand := by
    obtain ⟨hprev, -⟩ := Prod.mk.inj h
    rwa [hprev]
  exact (lineBlind_prevCommand Q).exec_of (fun _ hm r s h => by rwa [prevCommand_take hm r s])
    (fun e hc => absurd hc (hreset e))
    (fun _ _ _ _ _ _ _ _ h => hkept (commandView_takeOdometry ..) h)
    (fun _ _ h => hkept (commandView_watchdogExpiry _) h)
    (fun _ _ _ _ _ _ _ _ _ h => hkept (commandView_takeFix ..) h)
    (fun _ _ _ _ _ _ _ _ _ _ h => hkept (commandView_takeSample ..) h)
    (fun _ _ _ _ h => hkept (commandView_senseFrame ..) h)
    hack hstep
    (fun _ _ h => hkept (commandView_verifyCompletes _) h) hs he

/-- Settles O17: a known command moves only where a step moves it, and an unknown one is made known by no other command
than an acknowledgement. -/
theorem commandMovesByRateStep : Obligations.CommandMovesByRateStep := by
  intro c s t he hreset
  refine ⟨fun x hx hc => ?_, fun x hx hc => ?_, fun hx hc => ?_⟩
  · refine prevCommand_exec (Q := (· = some x)) hreset (fun h => absurd h hc) (fun q y st _ u hu => ?_) hx he
    rcases commandView_receiveAck q y st u with hsame | ⟨hunknown, -⟩
    · exact (congrArg Prod.fst hsame).trans hu
    · exact absurd (hu.symm.trans hunknown) nofun
  · subst hc
    refine of_unlessHeld (P := fun u => ∃ y, u.mode.prevCommand = some y
      ∧ (y - x).natAbs ≤ rateStep s.params ∧ (s.mode.mode = .hold → y = x)) ⟨x, hx, by simp, fun _ => rfl⟩ he ?_
    have hview := congrArg Prod.fst (commandView_runStep s)
    by_cases hh : s.mode.mode = .hold
    · rw [stepCommand, formCommand_hold hx hh] at hview
      exact ⟨x, hview, by simp, fun _ => rfl⟩
    · rw [stepCommand, formCommand_moved hx hh] at hview
      exact ⟨_, hview, moveToward_close .., fun h => absurd h hh⟩
  · refine prevCommand_exec (Q := (· = none)) hreset (fun _ u hu => ?_) (fun q y st h => absurd h (hc q y st)) hx he
    exact (congrArg Prod.fst (commandView_runStep u)).trans (congrArg Prod.fst (formCommand_unknown hu ..))

end Sys2Proof.Machine

/-! SUPPORT. The law of the command (R116) with that of the stroke table (R147, R150): a step moves the command toward a
target within the limit, and an acknowledgement converts a stroke by a lawful table. -/

namespace Sys2Proof.Machine

open Sys2Proof.Safety

/-! ### The stroke table (R147, R150) -/

theorem firstFall_none {t : List Int} (h : firstFall t = none) {i : Nat} (hi : i < 16) :
    strokeAt t i < strokeAt t (i + 1) := by
  have hrises := List.find?_eq_none.1 h i (List.mem_range.2 hi)
  simpa using hrises

theorem strokeAt_eq_getElem {t : List Int} {i : Nat} (h : i < t.length) : strokeAt t i = t[i] :=
  List.getD_eq_getElem _ _ h

/-- A table of seventeen strokes that passes the checks of R150 meets the conditions of R147. -/
theorem strokeLaw_of_checks {t : List Int} (hlength : t.length = 17) (hrange : strokesInRange t = true)
    (hrises : firstFall t = none) (hcentre : (strokeAt t 8).natAbs ≤ 50) : StrokeLaw t := by
  refine ⟨hlength, by simpa [strokesInRange] using hrange, ?_, hcentre⟩
  rw [← List.isChain_iff_pairwise, List.isChain_iff_getElem]
  intro i hi
  rw [← strokeAt_eq_getElem, ← strokeAt_eq_getElem]
  exact firstFall_none hrises (by omega)

theorem strokeLaw_rises {t : List Int} (h : StrokeLaw t) {i : Nat} (hi : i < 16) :
    strokeAt t i < strokeAt t (i + 1) := by
  obtain ⟨hlength, -, hpairwise, -⟩ := h
  rw [strokeAt_eq_getElem (by omega), strokeAt_eq_getElem (by omega)]
  exact List.pairwise_iff_getElem.1 hpairwise i (i + 1) (by omega) (by omega) (by omega)

/-- A STROKE LOAD leaves a lawful table lawful: it loads what passes R150's checks, or nothing. -/
theorem strokeLaw_takeStrokeLoad (r : Request) {s : State} (hs : StrokeLaw s.strokes) :
    StrokeLaw (takeStrokeLoad r s).1.strokes := by
  unfold takeStrokeLoad
  dsimp only
  split
  · exact hs
  · split
    · exact hs
    · split
      · exact hs
      · split
        · exact hs
        · next hrange =>
          split
          · exact hs
          · next hrises =>
            split
            · exact hs
            · next hcentre =>
              exact strokeLaw_of_checks (by simp [argStrokes]) (by simpa using hrange) hrises (Nat.le_of_not_lt hcentre)

/-! ### The inverse conversion (R149) -/

/-- The segment of a stroke in the table holds it (R149). -/
theorem strokeSegment_holds {t : List Int} {x : Int} (hlow : strokeAt t 0 ≤ x) (hhigh : x ≤ strokeAt t 16) :
    strokeSegment t x ≤ 15 ∧ strokeAt t (strokeSegment t x) ≤ x ∧ x ≤ strokeAt t (strokeSegment t x + 1) := by
  unfold strokeSegment
  cases hfind : (List.range 16).find? fun i => decide (strokeAt t i ≤ x) && decide (x < strokeAt t (i + 1)) with
  | some i =>
    have hi := List.mem_range.1 (List.mem_of_find?_eq_some hfind)
    have hholds := List.find?_some hfind
    simp only [Bool.and_eq_true, decide_eq_true_eq] at hholds
    exact ⟨Nat.le_of_lt_succ hi, hholds.1, le_of_lt hholds.2⟩
  | none =>
    have hnone : ∀ i < 16, strokeAt t i ≤ x → strokeAt t (i + 1) ≤ x := by simpa using hfind
    have habove : ∀ i ≤ 16, strokeAt t i ≤ x := by
      intro i
      induction i with
      | zero => exact fun _ => hlow
      | succ i ih => exact fun hi => hnone i hi (ih (Nat.le_of_succ_le hi))
    exact ⟨le_refl _, habove 15 (by decide), hhigh⟩

/-- Division to the nearest integer of at most a hundred times the divisor. -/
theorem nearestDiv_mem {n d : Int} (hd : 0 < d) (hn : 0 ≤ n) (h : n ≤ 100 * d) :
    0 ≤ nearestDiv n d ∧ nearestDiv n d ≤ 100 := by
  unfold nearestDiv
  exact ⟨Int.ediv_nonneg (by omega) (by omega), Int.lt_add_one_iff.1 (Int.ediv_lt_of_lt_mul (by omega) (by omega))⟩

/-- A lawful table converts every stroke to an angle of a command (R149). -/
theorem toAngle_commandAngle {t : List Int} (h : StrokeLaw t) (x : Int) : CommandAngle (toAngle t x) := by
  unfold toAngle CommandAngle
  split
  · omega
  · next hlow =>
    split
    · omega
    · next hhigh =>
      obtain ⟨hi, hfrom, hto⟩ := strokeSegment_holds (Int.not_lt.1 hlow) (Int.not_lt.1 hhigh)
      have hrises := strokeLaw_rises h (Nat.lt_succ_of_le hi)
      have hpart := nearestDiv_mem (n := 100 * (x - strokeAt t (strokeSegment t x))) (Int.sub_pos.2 hrises)
        (by omega) (by omega)
      dsimp only
      omega

/-! ### The law -/

theorem commandLaw_congr {s t : State} (h : commandView t = commandView s) (hp : t.params = s.params)
    (hs : CommandLaw s) : CommandLaw t := by
  obtain ⟨hprev, hstrokes⟩ := Prod.mk.inj h
  unfold CommandLaw
  rw [hprev, hstrokes, hp]
  exact hs

theorem lineBlind_commandLaw : LineBlind CommandLaw where
  line _ _ _ _ _ _ _ hs := hs
  held _ _ hs := hs
  free _ _ hs := hs

theorem timeBlind_commandLaw : TimeBlind CommandLaw where
  now _ _ hs := hs
  pending _ _ hs := hs

/-- A PARAM SET of tilt_limit applies a value of its range (R96, R165). -/
theorem tiltLimit_takeParamSet (r : Request) {s : State} (hs : s.params.tiltLimit ≤ 800) :
    (takeParamSet r s).1.params.tiltLimit ≤ 800 := by
  have hset (x : Param) (v : Int) :
      getParam .tiltLimit (setParam x (appliedValue x s.params v) s) ≤ 800 := by
    by_cases hx : x = .tiltLimit
    · subst hx
      show getParam .tiltLimit (setParam .tiltLimit (limitTo 0 800 v) s) ≤ 800
      rw [getParam_setParam_same (x := .tiltLimit) (limitTo_lower 0 800 v)]
      exact limitTo_upper (by decide) _
    · rw [getParam_setParam_other (Ne.symm hx)]
      exact Int.ofNat_le.2 hs
  unfold takeParamSet
  split
  · exact hs
  · split
    · exact hs
    · next x _ =>
      split
      · exact hs
      · rw [(paramsKept_applyParam ..).params]
        exact Int.ofNat_le.1 (hset x _)

theorem commandLaw_take {row : RequestRow} (hm : row ∈ catalogue) (r : Request) {s : State} (hs : CommandLaw s) :
    CommandLaw (row.take r s).1 := by
  obtain ⟨hstrokes, hlimit, hangle⟩ := hs
  rcases ownerSparesCommand_catalogue row hm with rfl | hspares
  · have hkept := (ownerKeeps_strokeLoad r s).params
    refine ⟨strokeLaw_takeStrokeLoad r hstrokes, ?_, ?_⟩
    · exact hkept ▸ hlimit
    · exact prevCommand_takeStrokeLoad r s ▸ hangle
  · rcases ownerKeeps_catalogue row hm with rfl | hkeeps
    · obtain ⟨hprev, hsame⟩ := Prod.mk.inj (hspares r s)
      exact ⟨hsame ▸ hstrokes, tiltLimit_takeParamSet r hlimit, hprev ▸ hangle⟩
    · exact commandLaw_congr (hspares r s) (hkeeps r s).params ⟨hstrokes, hlimit, hangle⟩

/-- A step's command lies between the previous one and a target within ±tilt_limit (R112, R116). -/
theorem commandLaw_runStep {s : State} (hs : CommandLaw s) : CommandLaw (runStep s) := by
  obtain ⟨hprev, hstrokes⟩ := Prod.mk.inj (commandView_runStep s)
  obtain ⟨hlaw, hlimit, hangle⟩ := hs
  unfold CommandLaw
  rw [hprev, hstrokes, (settingsKept_runStep s).params, stepCommand]
  refine ⟨hlaw, hlimit, fun y hy => ?_⟩
  cases hx : s.mode.prevCommand with
  | none =>
    rw [formCommand_unknown hx] at hy
    cases hy
  | some x =>
    by_cases hh : s.mode.mode = .hold
    · rw [formCommand_hold hx hh] at hy
      exact hangle y (hx.trans hy)
    · rw [formCommand_moved hx hh] at hy
      cases hy
      obtain ⟨hlow, hhigh⟩ := hangle x hx
      have htarget := (stepTarget_natAbs_le s).trans hlimit
      have hbetween := moveToward_between x (stepTarget s) (rateStep s.params)
      exact ⟨by omega, by omega⟩

/-- The stroke of an acknowledgement is converted by the table held (R122, R126). -/
theorem commandLaw_receiveAck (q : Byte) (x : Word16) (st : Byte) {s : State} (hs : CommandLaw s) :
    CommandLaw (receiveAck q x st s) := by
  have hparams := (settingsKept_receiveAck q x st s).params
  rcases commandView_receiveAck q x st s with hsame | ⟨-, hmade⟩
  · exact commandLaw_congr hsame hparams hs
  · obtain ⟨hstrokes, hlimit, -⟩ := hs
    obtain ⟨hprev, htable⟩ := Prod.mk.inj hmade
    refine ⟨htable ▸ hstrokes, hparams ▸ hlimit, fun c hc => ?_⟩
    cases hprev.symm.trans hc
    exact toAngle_commandAngle hstrokes _

/-- Every command keeps the law. -/
theorem commandLaw_exec {c : Instr} {s t : State} (hs : CommandLaw s) (he : exec c s = .next t) : CommandLaw t :=
  lineBlind_commandLaw.exec (fun _ hm r _ h => commandLaw_take hm r h)
    (fun _ _ _ => commandLaw_congr rfl rfl commandLaw_reset)
    (fun _ _ _ _ _ _ h => commandLaw_congr (commandView_takeOdometry ..) (paramsKept_takeOdometry ..).params h)
    (fun _ h => commandLaw_congr (commandView_watchdogExpiry _) (paramsKept_watchdogExpiry _).params h)
    (fun _ _ _ _ _ _ h => commandLaw_congr (commandView_takeFix ..) (paramsKept_takeFix ..).params h)
    (fun _ _ _ h => commandLaw_congr (commandView_takeSample ..) (settingsKept_takeSample ..).params h)
    (fun _ _ _ h => commandLaw_congr (commandView_senseFrame ..) (settingsKept_senseFrame ..).params h)
    (fun _ _ _ _ h => commandLaw_receiveAck _ _ _ h) (fun _ h => commandLaw_runStep h)
    (fun _ h => commandLaw_congr (commandView_verifyCompletes _) (settingsKept_verifyCompletes _).params h) hs he

/-- Settles O13: every command keeps the law, so every step does. -/
theorem stepKeepsCommandLaw : Obligations.StepKeepsCommandLaw := fun _ _ hs he =>
  lineBlind_commandLaw.step timeBlind_commandLaw (fun _ _ _ => commandLaw_exec) hs he

end Sys2Proof.Machine

/-! SUPPORT. One whole step (R97 to R99, R115 to R117, R141, R142, R172): what it hands to the drive port, the exchange
with the drive, and the state after it. -/

namespace Sys2Proof.Machine

open Sys2Proof.Safety

/-! ### What a step hands to the drive port (R98, R99) -/

/-- The step summary (R99). -/
def stepSummary (s : State) : StepSummary :=
  summaryOf s.mode.mode (stepPosition s) (stepRoute s).2 (stepStages s) (stepCommand s).1 (stepCommand s).2

/-- The demand unit's items after a step (R95). -/
def steppedDemand (s : State) : DemandUnit :=
  { stagedDemand s.params (stepStages s) s.demand with lastStep := some (stepSummary s) }

/-- The beginning of a step, with the DISAGREE report of a latch it sets (R97, R109). -/
def reportedStep (s : State) : State :=
  if setsLatch s.params (stepStages s).run then
    sendReport (disagreeReport (stepStages s) (stepPosition s) (stepRoute s).2) (beginStep s)
  else beginStep s

/-- The state a step hands to the drive port: queries, stages and command done (R98). -/
def formedStep (s : State) : State :=
  { reportedStep s with
    walker := (stepRoute s).1.walker, look := (stepRoute s).1.look, queue := (stepReactiveQuery s).1
    demand := steppedDemand s, mode := { s.mode with prevCommand := (stepCommand s).1 } }

theorem reportedStep_eq (s : State) : reportedStep s = { beginStep s with line := (reportedStep s).line } := by
  unfold reportedStep
  split
  · exact sendReport_eq _ _
  · rfl

theorem formedStep_eq (s : State) :
    formedStep s =
      { beginStep s with
        line := (reportedStep s).line, walker := (stepRoute s).1.walker, look := (stepRoute s).1.look
        queue := (stepReactiveQuery s).1, demand := steppedDemand s
        mode := { s.mode with prevCommand := (stepCommand s).1 } } := by
  rw [formedStep, reportedStep_eq]

theorem formedStep_drive (s : State) : (formedStep s).drive = s.drive := by rw [formedStep_eq]; rfl

/-- A step sends its report before or after it takes the items of its queries alike. -/
theorem runStages_stepped (s : State) :
    runStages (stepStages s) (stepPosition s) (stepRoute s).2
        (stepReactive (stepPosition s) (stepRoute s).1).1 =
      { reportedStep s with
        walker := (stepRoute s).1.walker, look := (stepRoute s).1.look, queue := (stepReactiveQuery s).1
        demand := stagedDemand s.params (stepStages s) s.demand } := by
  rw [reportedStep_eq, runStages_eq]
  have hline : (runStages (stepStages s) (stepPosition s) (stepRoute s).2
      (stepReactive (stepPosition s) (stepRoute s).1).1).line = (reportedStep s).line := by
    unfold runStages reportedStep
    change (if setsLatch s.params (stepStages s).run then _ else _ : State).line = _
    split
    · exact sendReport_line_congr _ rfl
    · rfl
  rw [hline]
  rfl

/-- The command of a step is the previous command after it, an unknown one staying unknown (R117). -/
theorem takeCommand_stepCommand {s u : State} (h : u.mode = s.mode) :
    takeCommand (stepCommand s).1 u = { u with mode := { s.mode with prevCommand := (stepCommand s).1 } } := by
  rw [takeCommand_eq, h, stepCommand, formCommand_orElse]

theorem runStep_eq_driveExchange (s : State) : runStep s = driveExchange (stepSummary s) (formedStep s) := by
  have hmode : (reportedStep s).mode = s.mode := by
    rw [reportedStep_eq]
    rfl
  have htaken := (congrArg (takeCommand (stepCommand s).1) (runStages_stepped s)).trans (takeCommand_stepCommand hmode)
  have hformed (u : State) (h : u = { formedStep s with demand := stagedDemand s.params (stepStages s) s.demand }) :
      { u with demand := { u.demand with lastStep := some (stepSummary s) } } = formedStep s := by
    subst h
    rfl
  exact congrArg (driveExchange (stepSummary s)) (hformed _ htaken)

/-! ### The exchange with the drive (R141, R142) -/

/-- The drive port after the miss judgement (R142). -/
def judgedDrive (d : DrivePort) : DrivePort := if missed d then countMiss d else d

/-- The settle count of the mode controller after the miss judgement (R126). -/
def notedMiss (s : State) : State :=
  { s with mode := { s.mode with settle := if missed s.drive then 0 else s.mode.settle } }

/-- A step finds the third miss in a row (R142). -/
def silent (d : DrivePort) : Bool := missed d && decide (2 ≤ d.missCount)

/-- The part after the miss judgement, but for the drive port's own items (R142). -/
def judged (s : State) : State :=
  if silent s.drive then takeFault .driveSilent (notedMiss s) else notedMiss s

theorem missed_iff (d : DrivePort) : missed d = true ↔ ∃ x, d.outstanding = some x ∧ x.answered = false := by
  cases h : d.outstanding <;> simp [missed, h]

theorem silent_iff (d : DrivePort) :
    silent d = true ↔ (∃ x, d.outstanding = some x ∧ x.answered = false) ∧ 2 ≤ d.missCount := by
  rw [silent, Bool.and_eq_true, missed_iff, decide_eq_true_eq]

theorem judgedDrive_answered {d : DrivePort} (h : missed d = false) : judgedDrive d = d := by
  simp only [judgedDrive, h, Bool.false_eq_true, if_false]

theorem judgedDrive_missed {d : DrivePort} (h : missed d = true) (hc : d.missCount < 2) :
    judgedDrive d = { d with missCount := d.missCount + 1, misses := count16 d.misses } := by
  rw [judgedDrive, if_pos h, countMiss, if_pos (by omega)]

theorem judgedDrive_silent {d : DrivePort} (h : missed d = true) (hc : 2 ≤ d.missCount) :
    judgedDrive d = { d with missCount := 0, misses := count16 d.misses, silences := count16 d.silences } := by
  rw [judgedDrive, if_pos h, countMiss, if_neg (by omega)]

/-- The miss judgement leaves the next DRIVE's sequence and the rounding mode alone. -/
theorem judgedDrive_kept (d : DrivePort) : (judgedDrive d).seq = d.seq ∧ (judgedDrive d).rounding = d.rounding := by
  unfold judgedDrive countMiss
  split_ifs <;> exact ⟨rfl, rfl⟩

theorem judgeMiss_withDrive (s : State) : judgeMiss s = withDrive (judgedDrive s.drive) (judged s) := by
  cases hm : missed s.drive with
  | false =>
    have hsilent : silent s.drive = false := by rw [silent, hm, Bool.false_and]
    simp only [judgeMiss, judged, notedMiss, hm, hsilent, judgedDrive_answered hm, Bool.false_eq_true, if_false]
    rfl
  | true =>
    have hnoted : notedMiss s = noteMiss s := by simp only [notedMiss, noteMiss, hm, if_true]
    by_cases hc : s.drive.missCount + 1 < 3
    · have hsilent : silent s.drive = false := by simp only [silent, hm, Bool.true_and, decide_eq_false_iff_not]; omega
      simp only [judgeMiss, judged, judgedDrive, hm, hsilent, hnoted, hc, Bool.false_eq_true, if_true, if_false]
      rfl
    · have hsilent : silent s.drive = true := by simp only [silent, hm, Bool.true_and, decide_eq_true_eq]; omega
      simp only [judgeMiss, judged, judgedDrive, hm, hsilent, hnoted, hc, if_true, if_false]
      exact takeFault_withDrive .driveSilent (countMiss s.drive) (noteMiss s)

/-- The exchange builds the step's DRIVE, judges the miss, and hands the DRIVE over to the audit. -/
theorem driveExchange_eq (sum : StepSummary) (s : State) :
    driveExchange sum s = auditHandover sum (buildDrive s sum.command)
      { judged s with drive := sentDrive (buildDrive s sum.command) (judgedDrive s.drive) } := by
  have hbuild : buildDrive (judgeMiss s) sum.command = buildDrive s sum.command := by
    have hstrokes : (judgeMiss s).strokes = s.strokes := by rw [judgeMiss_eq]
    have hdrive : (judgeMiss s).drive = judgedDrive s.drive := by rw [judgeMiss_withDrive]; rfl
    obtain ⟨hseq, hrounding⟩ := judgedDrive_kept s.drive
    unfold buildDrive
    rw [hstrokes, hdrive, hseq, hrounding]
  unfold driveExchange
  dsimp only
  rw [hbuild, judgeMiss_withDrive]
  rfl

/-- The miss judgement changes beside the drive port only what a fault does. -/
theorem judged_eq (s : State) :
    judged s =
      { s with
        line := (judged s).line, mode := (judged s).mode, holdReply := (judged s).holdReply
        audit := (judged s).audit } := by
  unfold judged
  split
  · rw [takeFault_eq]
    rfl
  · rfl

/-! ### The whole step -/

/-- The DRIVE of a step: a MOVE of the command, or a QUERY (R141). -/
def stepDrive (s : State) : Drive := buildDrive s (stepCommand s).1

/-- The drive port after a step (R141, R142). -/
def steppedDrive (s : State) : DrivePort := sentDrive (stepDrive s) (judgedDrive s.drive)

/-- A step hands its DRIVE over to the audit last, after the miss judgement on what it has formed (R98, R172). -/
theorem runStep_eq (s : State) :
    runStep s = auditHandover (stepSummary s) (stepDrive s)
      { judged (formedStep s) with drive := steppedDrive s } := by
  have hstrokes : (formedStep s).strokes = s.strokes := by rw [formedStep_eq]; rfl
  have hbuild : buildDrive (formedStep s) (stepCommand s).1 = stepDrive s := by
    unfold stepDrive buildDrive
    rw [formedStep_drive, hstrokes]
  rw [runStep_eq_driveExchange, driveExchange_eq, formedStep_drive]
  show auditHandover _ (buildDrive (formedStep s) (stepCommand s).1) { judged (formedStep s) with
    drive := sentDrive (buildDrive (formedStep s) (stepCommand s).1) _ } = _
  rw [hbuild]
  rfl

/-- What the judgement and the hand-over leave of a step's items, and what the queries and stages leave of those before
it. -/
theorem runStep_items (s : State) :
    (runStep s).clock = (beginStep s).clock ∧ (runStep s).pos = s.pos ∧ (runStep s).params = s.params
      ∧ (runStep s).strokes = s.strokes ∧ (runStep s).store = s.store ∧ (runStep s).walker = (stepRoute s).1.walker
      ∧ (runStep s).look = (stepRoute s).1.look ∧ (runStep s).queue = (stepReactiveQuery s).1
      ∧ (runStep s).demand = steppedDemand s ∧ (runStep s).drive = steppedDrive s
      ∧ (runStep s).mode = (judged (formedStep s)).mode
      ∧ (runStep s).holdReply = (judged (formedStep s)).holdReply := by
  rw [runStep_eq, auditHandover_eq]
  have hjudged := judged_eq (formedStep s)
  rw [formedStep_eq] at hjudged ⊢
  rw [hjudged]
  exact ⟨rfl, rfl, rfl, rfl, rfl, rfl, rfl, rfl, rfl, rfl, rfl, rfl⟩

/-! ### The audit over a step (R170, R172) -/

theorem completeAudit_idle {s : State} (h : s.audit.pending = none) (c : Completion) : completeAudit c s = s := by
  simp only [completeAudit, h]

theorem auditCount_unarmed {s : State} (h : s.audit.armed = false) (sum : StepSummary) (d : Drive) :
    auditCount sum d s = s := by
  simp only [auditCount, h, Bool.false_and, Bool.false_eq_true, if_false]

theorem completeAudit_stepNumber (c : Completion) (s : State) :
    (completeAudit c s).audit.stepNumber = s.audit.stepNumber := by
  unfold completeAudit
  split
  · rfl
  · rfl
  · rw [sendReport_audit]

theorem auditHandover_stepNumber (sum : StepSummary) (d : Drive) (s : State) :
    (auditHandover sum d s).audit.stepNumber = s.audit.stepNumber := by
  have hcount (x : State) : (auditCount sum d x).audit.stepNumber = x.audit.stepNumber := by
    unfold auditCount
    split
    · split <;> rfl
    · rfl
  exact (hcount _).trans (completeAudit_stepNumber ..)

/-- Of the audit a fault touches the pending tag alone, when it enters FAULT (R131). -/
theorem takeFault_audit (cause : FaultCause) (s : State) :
    (takeFault cause s).audit = s.audit
      ∨ ∃ u : State, u.audit = s.audit ∧ (takeFault cause s).audit = (completeAudit .fault u).audit := by
  by_cases hf : s.mode.mode = .fault
  · exact .inl (by rw [takeFault_further hf])
  · refine .inr ⟨answerHold .faulted { s with mode := faultedMode cause s.mode }, by rw [answerHold_eq], ?_⟩
    rw [takeFault, if_neg hf, enterFault, sendReport_audit, sendReport_audit]

theorem judged_stepNumber (s : State) : (judged s).audit.stepNumber = s.audit.stepNumber := by
  unfold judged
  split
  · rcases takeFault_audit .driveSilent (notedMiss s) with hsame | ⟨u, hu, hcompleted⟩
    · rw [hsame]
      rfl
    · rw [hcompleted, completeAudit_stepNumber, hu]
      rfl
  · rfl

/-- With no tag pending the miss judgement leaves the audit alone. -/
theorem judged_audit_idle {s : State} (h : s.audit.pending = none) : (judged s).audit = s.audit := by
  unfold judged
  split
  · rcases takeFault_audit .driveSilent (notedMiss s) with hsame | ⟨u, hu, hcompleted⟩
    · exact hsame
    · rw [hcompleted, completeAudit_idle (hu ▸ h), hu]
      rfl
  · rfl

theorem runStep_stepNumber (s : State) : (runStep s).audit.stepNumber = s.audit.stepNumber + 1#32 := by
  rw [runStep_eq, auditHandover_stepNumber]
  show (judged (formedStep s)).audit.stepNumber = _
  rw [judged_stepNumber, formedStep_eq]
  rfl

/-- With the audit disarmed and no tag pending a step leaves the audit alone, but for the step number. -/
theorem runStep_audit_idle {s : State} (ha : s.audit.armed = false) (hp : s.audit.pending = none) :
    (runStep s).audit = (beginStep s).audit ∧ (runStep s).freeCount = s.freeCount := by
  have haudit : (judged (formedStep s)).audit = (beginStep s).audit := by
    rw [judged_audit_idle] <;> rw [formedStep_eq]
    exact hp
  have hfree : (judged (formedStep s)).freeCount = s.freeCount := by
    rw [judged_eq, formedStep_eq]
    rfl
  have hhanded : runStep s = { judged (formedStep s) with drive := steppedDrive s } := by
    rw [runStep_eq, auditHandover_idle _ _ (haudit ▸ hp), auditCount_unarmed (haudit ▸ ha)]
  rw [hhanded]
  exact ⟨haudit, hfree⟩

/-! ### The line over a step -/

/-- Frames placed leave the line as it was, but for its ports and the report tag. -/
theorem FramesPlaced.line_eq {n : Nat} {s t : State} (h : FramesPlaced n s t) :
    { t.line with portA := s.line.portA, portB := s.line.portB, reportTag := s.line.reportTag } = s.line := by
  obtain ⟨hup, haddress, hmasked, hfloorA, hfloorB, ⟨hdrop, htaken, hrefused⟩, -, -⟩ := h
  dsimp only
  rw [hup, haddress, hmasked, hfloorA, hfloorB, hdrop, htaken, hrefused]

/-- A step uses at most five report tags: for DISAGREE, for a fault and for a tag found pending. -/
theorem framesPlaced_runStep (s : State) : FramesPlaced 5 s (runStep s) := by
  have hreported : FramesPlaced 1 s (reportedStep s) := by
    unfold reportedStep
    split
    · exact framesPlaced_report _ rfl
    · exact FramesPlaced.mono (m := 0) (.ofEq rfl) (Nat.zero_le 1)
  have hformed : FramesPlaced 1 s (formedStep s) := hreported.trans (n := 0) (.ofEq rfl)
  have hjudged (u : State) : FramesPlaced 3 u (judged u) := by
    have hnoted : FramesPlaced 0 u (notedMiss u) := .ofEq rfl
    unfold judged
    split
    · exact (hnoted.trans (framesPlaced_takeFault ..)).mono (by split <;> omega)
    · exact hnoted.mono (Nat.zero_le 3)
  have hsent : FramesPlaced 4 s { judged (formedStep s) with drive := steppedDrive s } :=
    (hformed.trans (hjudged _)).trans (n := 0) (.ofEq rfl)
  rw [runStep_eq]
  exact (hsent.trans (framesPlaced_auditHandover ..)).mono (by split <;> omega)

/-! ### The latch and the fault of a step -/

theorem setsLatch_iff (p : Params) (run : Nat) : setsLatch p run = true ↔ run ≠ 0 ∧ p.disagreeSteps ≤ run := by
  simp [setsLatch]

/-- The DISAGREE latch is set when the run count reaches disagree_steps, and the run then starts again (R109). -/
theorem stagedDemand_latch (p : Params) (g : Stages) (x : DemandUnit) :
    if g.run ≠ 0 ∧ p.disagreeSteps ≤ g.run then
      (stagedDemand p g x).latch = true ∧ (stagedDemand p g x).runCount = 0
        ∧ (stagedDemand p g x).latchSettings = count16 x.latchSettings
    else (stagedDemand p g x).latch = x.latch ∧ (stagedDemand p g x).runCount = g.run
      ∧ (stagedDemand p g x).latchSettings = x.latchSettings := by
  split
  · next h =>
    have hset := (setsLatch_iff p g.run).2 h
    simp only [stagedDemand, hset, Bool.or_true, if_true, and_self]
  · next h =>
    have hset : setsLatch p g.run = false := Bool.not_eq_true _ ▸ mt (setsLatch_iff p g.run).1 h
    simp only [stagedDemand, hset, Bool.or_false, Bool.false_eq_true, if_false, and_self]

/-- The state a step hands over, unless it finds the third miss in a row. -/
theorem judged_spared {s : State} (h : silent s.drive = false) : judged (formedStep s) = notedMiss (formedStep s) := by
  rw [judged, formedStep_drive, h]
  rfl

theorem judged_silent {s : State} (h : silent s.drive = true) :
    judged (formedStep s) = takeFault .driveSilent (notedMiss (formedStep s)) := by
  rw [judged, formedStep_drive, h]
  rfl

theorem notedMiss_formedStep (s : State) :
    notedMiss (formedStep s) = { formedStep s with
      mode := { s.mode with
        prevCommand := (stepCommand s).1, settle := if missed s.drive then 0 else s.mode.settle } } := by
  have hmissed : missed (formedStep s).drive = missed s.drive := congrArg missed (formedStep_drive s)
  rw [notedMiss, hmissed]
  rfl

/-- The same, written from the state with the step's report sent. -/
theorem notedMiss_formedStep_of {s r : State} {d : DemandUnit} {settle : Nat} (hr : r = reportedStep s)
    (hd : d = steppedDemand s) (hsettle : settle = if missed s.drive then 0 else s.mode.settle) :
    notedMiss (formedStep s) = { r with
      walker := (stepRoute s).1.walker, look := (stepRoute s).1.look, queue := (stepReactiveQuery s).1, demand := d
      mode := { s.mode with prevCommand := (stepCommand s).1, settle := settle } } := by
  subst hr hd hsettle
  rw [notedMiss_formedStep]
  rfl

theorem restrictionUnknownFlag_iff (o : RestrictionOutcome) : restrictionUnknownFlag o = true ↔ o ≠ .known := by
  cases o <;> simp [restrictionUnknownFlag]

/-- What the taking of a fault says of itself, entered or further (R131, R132). -/
theorem takeFault_noted (cause : FaultCause) (s : State) :
    (takeFault cause s).mode.mode = .fault ∧ (takeFault cause s).mode.faultsTaken = count16 s.mode.faultsTaken
      ∧ (s.mode.mode ≠ .fault → (takeFault cause s).mode.firstCause = some cause) := by
  rw [takeFault_mode]
  split
  · next hf => exact ⟨hf, rfl, fun h => absurd hf h⟩
  · exact ⟨rfl, rfl, fun _ => rfl⟩

/-- Settles O56, from what a step forms, judges and hands over. -/
theorem stepActs : Obligations.StepActs := by
  intro s hh now s1 pa route reactive g miss silence rs
  have hmiss : missed s.drive = true ↔ miss := missed_iff s.drive
  have hsilence : silent s.drive = true ↔ silence := silent_iff s.drive
  obtain ⟨hclock, hpos, hparams, hstrokes, hstore, hwalker, hlook, hqueue, hdemand, hdrive, hmode, hhold⟩ :=
    runStep_items s
  have hprev : (runStep s).mode.prevCommand = (stepCommand s).1 := congrArg Prod.fst (commandView_runStep s)
  have hspared (h : ¬ silence) : judged (formedStep s) = notedMiss (formedStep s) :=
    judged_spared (Bool.not_eq_true _ ▸ mt hsilence.1 h)
  have hsilent (h : silence) : judged (formedStep s) = takeFault .driveSilent (notedMiss (formedStep s)) :=
    judged_silent (hsilence.2 h)
  refine ⟨runStep s, stepSummary s, unlessHeld_awake hh _, by rw [hdemand]; rfl, hclock, runStep_stepNumber s, hpos,
    hparams, hstrokes, hstore, hwalker, hlook, hqueue, rfl, rfl, rfl, rfl, rfl, rfl, rfl, rfl, rfl, rfl, rfl, rfl, rfl,
    rfl, rfl, rfl, rfl, rfl, ?_, ?_, ?_, fun hc => ?_, fun c hc hm => ?_, fun c hc hm => ?_, hprev, fun hm hs => ?_,
    fun hm => ?_, fun hs => ?_, fun hs => ?_, ⟨fun hm => ?_, fun hm hs => ?_, fun hs => ?_⟩, ?_,
    (framesPlaced_runStep s).line_eq, fun ha hp => runStep_audit_idle ha hp, ?_⟩
  · exact restrictionUnknownFlag_iff _
  · rw [hdemand]; rfl
  · rw [hdemand]; rfl
  · have hnone := formCommand_unknown hc (stepTarget s) (rateStep s.params)
    exact ⟨congrArg Prod.fst hnone, congrArg Prod.snd hnone⟩
  · exact congrArg Prod.fst (formCommand_hold hc hm (stepTarget s) (rateStep s.params))
  · have hmoved := formCommand_moved hc hm (stepTarget s) (rateStep s.params)
    split
    · next hnear =>
      obtain ⟨hto, hrate⟩ := moveToward_near hnear
      exact ⟨(congrArg Prod.fst hmoved).trans (congrArg some hto), (congrArg Prod.snd hmoved).trans hrate⟩
    · next hfar =>
      obtain ⟨hto, hrate⟩ := moveToward_far hfar
      exact ⟨(congrArg Prod.fst hmoved).trans (congrArg some hto), (congrArg Prod.snd hmoved).trans hrate⟩
  · rw [hmode, hspared hs, notedMiss_formedStep, if_pos (hmiss.2 hm)]
    rfl
  · rw [hmode, hspared fun h => hm h.1, notedMiss_formedStep, if_neg (mt hmiss.1 hm)]
    rfl
  · rw [hmode, hsilent hs]
    exact takeFault_noted .driveSilent (notedMiss (formedStep s))
  · rw [hhold, hspared hs, notedMiss_formedStep, formedStep_eq]
    rfl
  · rw [hdrive, steppedDrive, judgedDrive_answered (Bool.not_eq_true _ ▸ mt hmiss.1 hm)]
    rfl
  · rw [hdrive, steppedDrive, judgedDrive_missed (hmiss.2 hm) (Nat.not_le.1 fun h => hs ⟨hm, h⟩)]
    rfl
  · rw [hdrive, steppedDrive, judgedDrive_silent (hmiss.2 hs.1) hs.2]
    rfl
  · rw [hdemand]
    exact stagedDemand_latch s.params (stepStages s) s.demand
  · intro x reported w
    have hreported : reported = reportedStep s := by
      unfold reportedStep
      simp only [setsLatch_iff]
      rfl
    have hw : w = notedMiss (formedStep s) :=
      (notedMiss_formedStep_of hreported hdemand (if_congr hmiss.symm rfl rfl)).symm
    refine ⟨fun hs => ?_, fun hs => ?_⟩
    · rw [hw, ← hspared hs, hdrive]
      exact runStep_eq s
    · rw [hw, ← hsilent hs, hdrive]
      exact runStep_eq s

end Sys2Proof.Machine

/-! SUPPORT. The requests of the mode controller (07), each by case: MODE SET, HOLD, RELEASE and RESUME. -/

namespace Sys2Proof.Machine

open Sys2Proof.Safety

/-! ### A change of mode (R123) -/

section
variable {reason : ModeReason} {m : ModeController} {s : State}

theorem changeMode_same (h : m.mode = s.mode.mode) : changeMode reason m s = { s with mode := m } := by
  rw [changeMode, if_pos h]

theorem changeMode_changed (h : m.mode ≠ s.mode.mode) : changeMode reason m s = modeChanged reason m s := by
  rw [changeMode, if_neg h]
  rfl

end

@[simp] theorem changeMode_mode (reason : ModeReason) (m : ModeController) (s : State) :
    (changeMode reason m s).mode = m := by
  rw [changeMode_eq]

@[simp] theorem modeChanged_mode (reason : ModeReason) (m : ModeController) (s : State) :
    (modeChanged reason m s).mode = m :=
  sendReport_mode ..

@[simp] theorem answerHold_mode (o : SettleOutcome) (s : State) : (answerHold o s).mode = s.mode := by
  rw [answerHold_eq]

theorem chosenToMode_ne (c : ChosenMode) :
    chosenToMode c ≠ .centring ∧ chosenToMode c ≠ .hold ∧ chosenToMode c ≠ .fault := by
  cases c <;> decide

/-! ### MODE SET (R124, R125) -/

theorem targetOfCode_eq_none {n : Nat} (h : n = 1 ∨ 3 < n) : targetOfCode n = none := by
  unfold targetOfCode
  split
  · omega
  · omega
  · omega
  · rfl

theorem targetOfCode_eq_some {n : Nat} {target : ChosenMode}
    (h : n = 0 ∧ target = .off ∨ n = 2 ∧ target = .reactive ∨ n = 3 ∧ target = .predictive) :
    targetOfCode n = some target := by
  rcases h with ⟨rfl, rfl⟩ | ⟨rfl, rfl⟩ | ⟨rfl, rfl⟩ <;> rfl

section
variable {m : ModeController} {target : ChosenMode}

/-- In CENTRING a MODE SET moves the target alone (R125). -/
theorem applyModeSet_centring (h : m.mode = .centring) : applyModeSet target m = { m with target := target } := by
  simp only [applyModeSet, h]

/-- A MODE SET of the mode held changes nothing (R125). -/
theorem applyModeSet_held (h : chosenToMode target = m.mode) : applyModeSet target m = m := by
  obtain ⟨mode⟩ := m
  dsimp only at h
  subst h
  cases target <;> rfl

/-- A MODE SET of a tilting mode enters it (R125). -/
theorem applyModeSet_tilting (h : m.mode = .off ∨ m.mode = .reactive ∨ m.mode = .predictive) (ht : target ≠ .off) :
    applyModeSet target m = { m with mode := chosenToMode target } := by
  cases target
  case off => exact absurd rfl ht
  all_goals rcases h with h | h | h <;> simp only [applyModeSet, h]

/-- A MODE SET of OFF leaves a tilting mode for CENTRING (R125). -/
theorem applyModeSet_off (h : m.mode = .reactive ∨ m.mode = .predictive) :
    applyModeSet .off m = { m with mode := .centring, target := .off } := by
  rcases h with h | h <;> simp only [applyModeSet, h]

end

section
variable {r : Request} {s : State}

theorem takeModeSet_badArg (h : r.args.length < 1 ∨ targetOfCode (arg8 r.args 0) = none) :
    takeModeSet r s = (s, answer .badArg (modeHeld s.mode)) := by
  unfold takeModeSet
  split
  · rfl
  · next hlen => rw [h.resolve_left hlen]

variable {target : ChosenMode} (hlen : ¬ r.args.length < 1) (htarget : targetOfCode (arg8 r.args 0) = some target)

include hlen htarget

theorem takeModeSet_stopped (h : s.mode.mode = .hold ∨ s.mode.mode = .fault) :
    takeModeSet r s = (s, answer .modeRefused (modeHeld s.mode)) := by
  simp only [takeModeSet, if_neg hlen, htarget, if_pos h]

variable (hmoving : ¬ (s.mode.mode = .hold ∨ s.mode.mode = .fault))

include hmoving

theorem takeModeSet_masked (h : target = .predictive) (hm : s.line.masked.predictive = true) :
    takeModeSet r s = (s, answer .masked (modeHeld s.mode)) := by
  simp only [takeModeSet, if_neg hlen, htarget, if_neg hmoving, if_pos (And.intro h hm)]

theorem takeModeSet_unconnected (hm : target = .predictive → s.line.masked.predictive = false) (h : target ≠ .off)
    (hu : s.line.upstream = none) : takeModeSet r s = (s, answer .modeRefused (modeHeld s.mode)) := by
  have hunmasked : ¬ (target = .predictive ∧ s.line.masked.predictive = true) := fun ⟨hp, hmask⟩ =>
    absurd ((hm hp).symm.trans hmask) nofun
  simp only [takeModeSet, if_neg hlen, htarget, if_neg hmoving, if_neg hunmasked, if_pos (And.intro h hu)]

theorem takeModeSet_passed (h : Admits s target) :
    takeModeSet r s = (changeMode .modeSet (applyModeSet target s.mode) s, answer .done (modeHeld s.mode)) := by
  obtain ⟨hup, hmask⟩ := h
  have hunmasked : ¬ (target = .predictive ∧ s.line.masked.predictive = true) := fun ⟨hp, hm⟩ =>
    absurd ((hmask hp).symm.trans hm) nofun
  have hconnected : ¬ (target ≠ .off ∧ s.line.upstream = none) := fun ⟨ht, hu⟩ => hup ht hu
  simp only [takeModeSet, if_neg hlen, htarget, if_neg hmoving, if_neg hunmasked, if_neg hconnected]

end

/-- Settles O29: the checks in their order, then the passed request by the mode it finds. -/
theorem modeSetActs : Obligations.ModeSetActs := by
  intro port h args s ha t reply done stopped
  let r : Request := { port := port, h := h, args := args, level := effectiveLevel s port h }
  have haddress : t.line.address = s.line.address := requestCounted_line_address port s
  have hmasked : t.line.masked = s.line.masked := requestCounted_line_masked port s
  have hup : t.line.upstream = s.line.upstream := requestCounted_line_upstream port s
  have hacts {t' : State} {result : ResultCode} (ht : takeModeSet r t = (t', answer result (modeHeld t.mode)))
      (hl : t'.line.address = s.line.address) : exec (.modeSet port h args) s = .next (reply result t') :=
    exec_concludes (row := modeSetRow) rfl ha ht hl
  refine ⟨fun hbad => hacts (takeModeSet_badArg (hbad.imp_right targetOfCode_eq_none)) haddress,
    fun target hlen hcode => ?_⟩
  have hlen' : ¬ args.length < 1 := Nat.not_lt.2 hlen
  have htarget : targetOfCode (arg8 args 0) = some target := targetOfCode_eq_some hcode
  refine ⟨fun hs => hacts (takeModeSet_stopped hlen' htarget hs) haddress,
    fun hs hp hm => hacts (takeModeSet_masked hlen' htarget hs hp (hmasked ▸ hm)) haddress,
    fun hs ht hm hu => hacts (takeModeSet_unconnected hlen' htarget hs (hmasked ▸ hm) ht (hup.trans hu)) haddress,
    fun hadmits => ?_⟩
  have hadmits' : Admits t target := by
    unfold Admits
    rw [hup, hmasked]
    exact hadmits
  have hpassed {u : State} (hs : ¬ stopped) (hu : changeMode .modeSet (applyModeSet target s.mode) t = u) :
      exec (.modeSet port h args) s = .next (done u) := by
    have htake := takeModeSet_passed (r := r) (s := t) hlen' htarget hs hadmits'
    subst hu
    exact hacts htake ((framesPlaced_changeMode ..).address.trans haddress)
  refine ⟨fun hc => ?_, fun hmode => ?_⟩
  · have hs : ¬ stopped := by simp [stopped, hc]
    refine hpassed hs ?_
    rw [applyModeSet_centring hc]
    exact changeMode_same rfl
  have hs : ¬ stopped := by rcases hmode with hmode | hmode | hmode <;> simp [stopped, hmode]
  refine ⟨fun hheld => hpassed hs ?_, fun hne ht => hpassed hs ?_, fun hon ht => hpassed hs ?_⟩
  · rw [applyModeSet_held hheld]
    exact changeMode_same rfl
  · rw [applyModeSet_tilting hmode ht, changeMode_changed hne]
  · have hleft : Mode.centring ≠ s.mode.mode := by rcases hmode with hmode | hmode | hmode <;> simp [hmode]
    rw [ht, applyModeSet_off (hmode.resolve_left hon), changeMode_changed hleft]

/-! ### HOLD (R128) -/

/-- The hold return mode of a mode that a MODE SET may name, or that centres for one (R128). -/
theorem holdReturnOf_of {m : ModeController} {ret : ChosenMode}
    (h : m.mode = chosenToMode ret ∨ m.mode = .centring ∧ m.target = ret) : holdReturnOf m = ret := by
  rcases h with h | ⟨h, ht⟩
  · cases ret <;> simp [holdReturnOf, h, chosenToMode]
  · simp [holdReturnOf, h, ht]

section
variable {r : Request} {s : State}

theorem takeHold_again (h : s.mode.holdFlag = true) : takeHold r s = (s, answer .done (.hold true .immediate)) := by
  rw [takeHold, if_pos h]

variable (hflag : s.mode.holdFlag = false)

include hflag

theorem takeHold_fault (h : s.mode.mode = .fault) :
    takeHold r s = ({ s with mode := { s.mode with holdFlag := true } }, answer .done (.hold false .immediate)) := by
  simp only [takeHold, hflag, Bool.false_eq_true, if_false, if_pos h]

/-- A HOLD that enters mode HOLD keeps its request for the reply to come (R128, R129). -/
theorem takeHold_entered (hf : s.mode.mode ≠ .fault) (hh : s.mode.mode ≠ .hold) :
    takeHold r s =
      (modeChanged .hold
        { s.mode with holdFlag := true, holdReturn := some (holdReturnOf s.mode), mode := .hold, settle := 0 }
        { s with holdReply := some { tag := r.h.tag, source := r.h.source, port := r.port } }, none) := by
  simp only [takeHold, hflag, Bool.false_eq_true, if_false, if_neg hf]
  rw [changeMode_changed hh.symm]

end

/-- A command that is a request of the catalogue, admitted, its reply deferred by its owner (R128). -/
theorem exec_defers {c : Instr} {row : RequestRow} {port : Port} {h : Header} {args : List Byte} {s t : State}
    (hc : exec c s = unlessHeld (receiveRow row port h args) s) (ha : Admitted s port h row.required)
    (ht : row.take { port := port, h := h, args := args, level := effectiveLevel s port h } (requestCounted port s)
      = (t, none)) (hl : t.line.address = s.line.address) :
    exec c s = .next (passBroadcast port h (row.code :: args) t) := by
  rw [hc, unlessHeld_awake ha.1, receiveRow_deferred ha ht hl]

/-- Settles O41, by the flag and the mode. -/
theorem holdActs : Obligations.HoldActs := by
  intro port h args s ha t held
  have haddress : t.line.address = s.line.address := requestCounted_line_address port s
  have hentered {ret : ChosenMode} (hflag : s.mode.holdFlag = false)
      (hret : s.mode.mode = chosenToMode ret ∨ s.mode.mode = .centring ∧ s.mode.target = ret) :
      exec (.hold port h args) s = .next (held ret) := by
    obtain ⟨-, hnotHold, hnotFault⟩ := chosenToMode_ne ret
    have hmode : s.mode.mode ≠ .fault ∧ s.mode.mode ≠ .hold := by
      rcases hret with hret | ⟨hret, -⟩ <;> rw [hret]
      · exact ⟨hnotFault, hnotHold⟩
      · exact ⟨nofun, nofun⟩
    have htake := takeHold_entered (r := { port := port, h := h, args := args, level := effectiveLevel s port h })
      (s := t) hflag hmode.1 hmode.2
    rw [holdReturnOf_of (m := t.mode) hret] at htake
    exact exec_defers (row := holdRow) rfl ha htake ((sendReport_line_address ..).trans haddress)
  exact ⟨fun hflag => exec_concludes (row := holdRow) rfl ha (takeHold_again hflag) haddress,
    fun hflag hf => exec_concludes (row := holdRow) rfl ha (takeHold_fault (s := t) hflag hf) haddress,
    fun hflag hc => hentered hflag (.inr ⟨hc, rfl⟩), fun _ hflag hm => hentered hflag (.inl hm)⟩

/-! ### RELEASE (R130) -/

section
variable (r : Request) {s : State}

theorem takeRelease_clear (h : s.mode.holdFlag = false) : takeRelease r s = (s, answer .done (.holdFlag false)) := by
  simp only [takeRelease, h, Bool.false_eq_true, if_false]

variable (hflag : s.mode.holdFlag = true)

include hflag

theorem takeRelease_hold {ret : ChosenMode} (h : s.mode.mode = .hold) (hr : s.mode.holdReturn = some ret) :
    takeRelease r s =
      (answerHold .released
        (modeChanged .release
          { s.mode with holdFlag := false, mode := chosenToMode ret, holdReturn := none, settle := 0 } s),
        answer .done (.holdFlag true)) := by
  have hleft : chosenToMode ret ≠ s.mode.mode := h ▸ (chosenToMode_ne ret).2.1
  simp only [takeRelease, hflag, if_true, if_pos h, hr, Option.getD_some]
  rw [changeMode_changed hleft]

theorem takeRelease_fault (h : s.mode.mode = .fault) :
    takeRelease r s =
      (answerHold .released { s with mode := { s.mode with holdFlag := false, settle := 0 } },
        answer .done (.holdFlag true)) := by
  have hnotHold : s.mode.mode ≠ .hold := by simp [h]
  simp only [takeRelease, hflag, if_true, if_neg hnotHold]

end

/-- Settles O42, by the flag and the mode. -/
theorem releaseActs : Obligations.ReleaseActs := by
  intro port h args s ha t done answered
  let r : Request := { port := port, h := h, args := args, level := effectiveLevel s port h }
  have haddress : t.line.address = s.line.address := requestCounted_line_address port s
  have hanswered {u : State} (hu : u.holdReply = s.holdReply) : answerHold .released u = answered u := by
    cases hr : s.holdReply <;> simp only [answerHold, answered, hu, hr]
  have hacts {u : State} (hu : u.holdReply = s.holdReply) (hl : u.line.address = s.line.address)
      (ht : takeRelease r t = (answerHold .released u, answer .done (.holdFlag true))) :
      exec (.release port h args) s = .next (done true (answered u)) := by
    rw [← hanswered hu]
    exact exec_concludes (row := releaseRow) rfl ha ht ((framesPlaced_answerHold ..).address.trans hl)
  refine ⟨fun hflag => exec_concludes (row := releaseRow) rfl ha (takeRelease_clear r hflag) haddress,
    fun ret hflag hm hr => ?_, fun hflag hm => ?_⟩
  · exact hacts (sendReport_holdReply ..) ((sendReport_line_address ..).trans haddress)
      (takeRelease_hold r (s := t) hflag hm hr)
  · exact hacts rfl haddress (takeRelease_fault r (s := t) hflag hm)

/-! ### RESUME (R133, R134) -/

section
variable (r : Request) {s : State}

theorem takeResume_running (h : s.mode.mode ≠ .fault) : takeResume r s = (s, answer .modeRefused) := by
  rw [takeResume, if_pos h]

variable (hf : s.mode.mode = .fault)

include hf

theorem takeResume_standing (h : causeCleared s.mode = false) :
    takeResume r s = (s, answer .notCleared (.cause s.mode.firstCause)) := by
  simp only [takeResume, hf, ne_eq, not_true_eq_false, if_false, h, Bool.not_false, if_true]

variable (hcleared : causeCleared s.mode = true)

include hcleared

theorem takeResume_hold (h : s.mode.holdFlag = true) :
    takeResume r s =
      (modeChanged .resume { s.mode with mode := .hold, holdReturn := some s.mode.saved } s, answer .done) := by
  have hleft : Mode.hold ≠ s.mode.mode := by simp [hf]
  simp only [takeResume, hf, ne_eq, not_true_eq_false, if_false, hcleared, Bool.not_true, Bool.false_eq_true, h,
    if_true]
  rw [changeMode_changed hleft]

theorem takeResume_saved (h : s.mode.holdFlag = false) :
    takeResume r s =
      (modeChanged .resume { s.mode with mode := chosenToMode s.mode.saved } s, answer .done) := by
  have hleft : chosenToMode s.mode.saved ≠ s.mode.mode := hf ▸ (chosenToMode_ne _).2.2
  simp only [takeResume, hf, ne_eq, not_true_eq_false, if_false, hcleared, Bool.not_true, Bool.false_eq_true, h]
  rw [changeMode_changed hleft]

end

/-- Settles O43, by the mode, the first cause and the flag. -/
theorem resumeActs : Obligations.ResumeActs := by
  intro port h args cause s ha t cleared
  let r : Request := { port := port, h := h, args := args, level := effectiveLevel s port h }
  have haddress : t.line.address = s.line.address := requestCounted_line_address port s
  have hreported {reason : ModeReason} {m : ModeController} :
      (modeChanged reason m t).line.address = s.line.address := (sendReport_line_address ..).trans haddress
  have hcause (hc : s.mode.firstCause = some cause) : causeCleared s.mode = true ↔ cleared := by
    cases cause <;> simp [causeCleared, hc, cleared]
  refine ⟨fun hm => exec_concludes (row := resumeRow) rfl ha (takeResume_running r hm) haddress,
    fun hm hc hstands => ?_, fun hm hc hgone hflag => ?_, fun hm hc hgone hflag => ?_⟩
  · have hstanding := takeResume_standing r (s := t) hm (Bool.eq_false_iff.2 (mt (hcause hc).1 hstands))
    rw [requestCounted_mode, hc] at hstanding
    exact exec_concludes (row := resumeRow) rfl ha hstanding haddress
  · exact exec_concludes (row := resumeRow) rfl ha (takeResume_hold r (s := t) hm ((hcause hc).2 hgone) hflag) hreported
  · exact exec_concludes (row := resumeRow) rfl ha (takeResume_saved r (s := t) hm ((hcause hc).2 hgone) hflag)
      hreported

end Sys2Proof.Machine

/-! SUPPORT. Which actions leave the mode controller alone, and what the law of the modes reads of the line (07). -/

namespace Sys2Proof.Machine

open Sys2Proof.Safety

/-- The mode controller, and what the law of the modes reads beside it: the upstream port and the masks (R124). -/
abbrev modeView (s : State) : ModeController × Option Port × Features := (s.mode, s.line.upstream, s.line.masked)

theorem FramesPlaced.modeView_eq {n : Nat} {s t : State} (h : FramesPlaced n s t) (hm : t.mode = s.mode) :
    modeView t = modeView s := by
  rw [modeView, hm, h.upstream, h.masked]

theorem modeView_takeFix (p : Port) (b x : Word24) (a v : Byte) (s : State) :
    modeView (takeFix p b x a v s).1 = modeView s := by
  unfold takeFix leadFix followFix
  (repeat' split) <;> rfl

theorem modeView_takeSample (p : Port) (e : PreviewEntry) (s : State) : modeView (takeSample p e s) = modeView s := by
  unfold takeSample
  split <;> rfl

theorem modeView_senseFrame (a : Word16) (f : Byte) (s : State) : modeView (senseFrame a f s) = modeView s := by
  have horiginate (pa : PositionAnswer) (x : State) : modeView (originate pa x) = modeView x := by
    unfold originate
    split
    · simp
    · rfl
  unfold senseFrame
  dsimp only
  split
  · split
    · exact horiginate ..
    · rfl
  · rfl

theorem modeView_verifyCompletes (s : State) : modeView (verifyCompletes s) = modeView s := by
  unfold verifyCompletes
  split
  · rfl
  · simp

/-- The requests that can touch the mode controller: its own, FEATURE MASK and RESTART, and PARAM SET, whose odo_lost_ms
can make the watchdog expire (R13). -/
def modeRows : List RequestRow :=
  [paramSetRow, modeSetRow, holdRow, releaseRow, resumeRow, featureMaskRow, restartRow]

/-- An owner's action on its request leaves the mode controller alone, and what its law reads beside it. -/
def OwnerSparesMode (take : Request → State → State × Answer) : Prop := ∀ r s, modeView (take r s).1 = modeView s

/-- Every other request is answered from the state, or changes the walker, the curve store, the stroke table or the
audit. -/
theorem ownerSparesMode_catalogue : ∀ row ∈ catalogue, row ∈ modeRows ∨ OwnerSparesMode row.take := by
  have hmode {row : RequestRow} (h : row ∈ modeRows) : row ∈ modeRows ∨ OwnerSparesMode row.take := .inl h
  simp only [catalogue, List.forall_mem_cons]
  refine ⟨.inr fun r s => ?statusRead, hmode (by simp [modeRows]), .inr fun r s => ?paramRead,
    hmode (by simp [modeRows]), .inr fun r s => ?descWrite, .inr fun r s => ?descClear, .inr fun r s => ?descRead,
    .inr fun r s => ?loadHead, .inr fun r s => ?loadTail, .inr fun r s => ?bankOpen, .inr fun r s => ?bankClose,
    .inr fun r s => ?bankErase, .inr fun r s => ?recordRead, .inr fun r s => ?strokeLoad, .inr fun r s => rfl,
    .inr fun r s => ?sectionSelect, hmode (by simp [modeRows]), hmode (by simp [modeRows]), hmode (by simp [modeRows]),
    .inr fun r s => ?auditArm, hmode (by simp [modeRows]), hmode (by simp [modeRows]), nofun⟩
  case statusRead | paramRead | descRead | recordRead =>
    simp only [statusReadRow, paramReadRow, descReadRow, recordReadRow, takeStatusRead, takeParamRead, takeDescRead,
      takeRecordRead]
    (repeat' split) <;> rfl
  case descWrite | descClear | sectionSelect =>
    simp only [descWriteRow, descClearRow, sectionSelectRow, takeDescWrite, takeDescClear, takeSectionSelect]
    (repeat' split) <;> rfl
  case loadHead | loadTail | bankOpen | bankClose | bankErase =>
    simp only [loadHeadRow, loadTailRow, bankOpenRow, bankCloseRow, bankEraseRow, takeLoadHead, takeLoadTail,
      takeBankOpen, takeBankClose, takeBankErase]
    (repeat' split) <;> simp
  case strokeLoad | auditArm =>
    simp only [strokeLoadRow, auditArmRow, takeStrokeLoad, takeAuditArm]
    (repeat' split) <;> rfl

end Sys2Proof.Machine

/-! SUPPORT. The law of the modes (R124, R128): the mode, and every mode held to return to, is one the state admits. -/

namespace Sys2Proof.Machine

open Sys2Proof.Safety

/-! ### The law, by the chosen mode that a mode stands for -/

/-- The law on the mode controller's items, for a choice of admitted modes: `savedFrom`, which R131 saves on leaving a
mode, is the one chosen mode that this mode is or leads back to. -/
structure ModesAdmitted (A : ChosenMode → Prop) (m : ModeController) : Prop where
  current : A (savedFrom m)
  saved : A m.saved
  held : m.mode = .hold → m.holdFlag = true ∧ m.holdReturn ≠ none

theorem admits_off (s : State) : Admits s .off := ⟨fun h => absurd rfl h, nofun⟩

theorem modeLaw_iff (s : State) : ModeLaw s ↔ ModesAdmitted (Admits s) s.mode := by
  constructor
  · rintro ⟨hreactive, hpredictive, hcentring, hhold, hsaved, hflag⟩
    refine ⟨?_, hsaved, fun hm => ⟨hflag hm, ?_⟩⟩
    · cases hm : s.mode.mode with
      | off => simpa only [savedFrom, hm] using admits_off s
      | centring => simpa only [savedFrom, hm] using hcentring hm
      | reactive => simpa only [savedFrom, hm] using hreactive hm
      | predictive => simpa only [savedFrom, hm] using hpredictive hm
      | fault => simpa only [savedFrom, hm] using hsaved
      | hold =>
        obtain ⟨ret, hret, hadmits⟩ := hhold hm
        simpa only [savedFrom, hm, hret, Option.getD_some] using hadmits
    · obtain ⟨ret, hret, -⟩ := hhold hm
      simp [hret]
  · rintro ⟨hcurrent, hsaved, hheld⟩
    have hhome {c : ChosenMode} (h : s.mode.mode = chosenToMode c ∨ s.mode.mode = .hold ∧ s.mode.holdReturn = some c
        ∨ s.mode.mode = .centring ∧ s.mode.target = c) : Admits s c := (savedFrom_of h).2 ▸ hcurrent
    refine ⟨fun hm => hhome (.inl hm), fun hm => hhome (.inl hm), fun hm => hhome (.inr (.inr ⟨hm, rfl⟩)),
      fun hm => ?_, hsaved, fun hm => (hheld hm).1⟩
    obtain ⟨ret, hret⟩ := Option.ne_none_iff_exists'.1 (hheld hm).2
    exact ⟨ret, hret, hhome (.inr (.inl ⟨hm, hret⟩))⟩

namespace ModesAdmitted

variable {A B : ChosenMode → Prop} {m : ModeController}

theorem mono (h : ModesAdmitted A m) (hAB : ∀ c, A c → B c) : ModesAdmitted B m :=
  ⟨hAB _ h.current, hAB _ h.saved, h.held⟩

/-- In an admitted mode, or centring for one. -/
theorem of_chosen {c : ChosenMode} (hm : m.mode = chosenToMode c ∨ m.mode = .centring ∧ m.target = c) (hc : A c)
    (hsaved : A m.saved) : ModesAdmitted A m := by
  refine ⟨(savedFrom_of (hm.imp_right .inr)).2 ▸ hc, hsaved, fun hh => ?_⟩
  rcases hm with hm | ⟨hm, -⟩
  · exact absurd (hm.symm.trans hh) (chosenToMode_ne c).2.1
  · exact absurd (hm.symm.trans hh) nofun

/-- In HOLD with an admitted mode to return to. -/
theorem of_held {c : ChosenMode} (hm : m.mode = .hold) (hr : m.holdReturn = some c) (hf : m.holdFlag = true) (hc : A c)
    (hsaved : A m.saved) : ModesAdmitted A m :=
  ⟨(savedFrom_of (.inr (.inl ⟨hm, hr⟩))).2 ▸ hc, hsaved, fun _ => ⟨hf, by simp [hr]⟩⟩

/-- A fault saves the mode left, and a further fault keeps the mode saved (R131, R132). -/
theorem takeFault {s : State} (h : ModesAdmitted A s.mode) (cause : FaultCause) :
    ModesAdmitted A (Machine.takeFault cause s).mode := by
  rw [takeFault_mode]
  split
  · exact ⟨h.current, h.saved, h.held⟩
  · exact ⟨h.current, h.current, nofun⟩

/-- A MODE SET of an admitted mode (R125). -/
theorem applyModeSet (h : ModesAdmitted A m) (hoff : A .off) {target : ChosenMode} (ht : A target) :
    ModesAdmitted A (Machine.applyModeSet target m) := by
  unfold Machine.applyModeSet
  split
  · exact of_chosen (.inl rfl) ht h.saved
  · next hm => exact of_chosen (.inr ⟨hm, rfl⟩) ht h.saved
  · exact of_chosen (.inr ⟨rfl, rfl⟩) hoff h.saved
  · exact of_chosen (.inr ⟨rfl, rfl⟩) hoff h.saved
  · exact of_chosen (.inl rfl) ht h.saved
  · exact of_chosen (.inl rfl) ht h.saved
  · exact h
  · exact h

/-- The masking of PREDICTIVE rewrites every mode held alike (R136). -/
theorem maskedMode (h : ModesAdmitted A m) (hAB : ∀ c, A c → B (withoutPredictive c)) :
    ModesAdmitted B (Machine.maskedMode m) := by
  have hcurrent : savedFrom (Machine.maskedMode m) = withoutPredictive (savedFrom m) := by
    cases hm : m.mode <;> simp only [savedFrom, Machine.maskedMode, hm, reduceCtorEq, if_true, if_false]
    case hold => cases m.holdReturn <;> rfl
    all_goals rfl
  refine ⟨hcurrent ▸ hAB _ h.current, hAB _ h.saved, fun hm => ?_⟩
  have hhold : m.mode = .hold := by
    by_contra hne
    by_cases hp : m.mode = .predictive <;> simp [Machine.maskedMode, hp, hne] at hm
  obtain ⟨hflag, hret⟩ := h.held hhold
  exact ⟨hflag, by simpa [Machine.maskedMode, hhold] using hret⟩

end ModesAdmitted

/-! ### Actions that keep the law -/

theorem modeLaw_congr {s t : State} (h : modeView t = modeView s) (hs : ModeLaw s) : ModeLaw t := by
  obtain ⟨hm, hu, hk⟩ : t.mode = s.mode ∧ t.line.upstream = s.line.upstream ∧ t.line.masked = s.line.masked := by
    simpa [modeView] using h
  unfold ModeLaw Admits
  rw [hm, hu, hk]
  exact hs

/-- The admitted modes are those of the state before, when at most the upstream port was made known. -/
theorem admits_mono {s t : State} (hu : s.line.upstream ≠ none → t.line.upstream ≠ none)
    (hk : t.line.masked.predictive = s.line.masked.predictive) (c : ChosenMode) (h : Admits s c) : Admits t c :=
  ⟨fun hc => hu (h.1 hc), fun hc => hk.trans (h.2 hc)⟩

theorem FramesPlaced.modeLaw {n : Nat} {s t : State} (h : FramesPlaced n s t)
    (hm : ModesAdmitted (Admits s) t.mode) : ModeLaw t :=
  (modeLaw_iff t).2 (hm.mono (admits_mono (by rw [h.upstream]; exact id) (by rw [h.masked])))

theorem modeLaw_changeMode {m : ModeController} {s : State} (reason : ModeReason)
    (h : ModesAdmitted (Admits s) m) : ModeLaw (changeMode reason m s) :=
  (framesPlaced_changeMode reason m s).modeLaw (by rwa [changeMode_mode])

theorem modeLaw_answerHold (o : SettleOutcome) {s : State} (hs : ModeLaw s) : ModeLaw (answerHold o s) :=
  modeLaw_congr ((framesPlaced_answerHold o s).modeView_eq (answerHold_mode o s)) hs

theorem modeLaw_takeFault (cause : FaultCause) {s : State} (hs : ModeLaw s) : ModeLaw (takeFault cause s) :=
  (framesPlaced_takeFault cause s).modeLaw (((modeLaw_iff s).1 hs).takeFault cause)

theorem modeLaw_watchdogExpires {s : State} (hs : ModeLaw s) : ModeLaw (watchdogExpires s) :=
  modeLaw_takeFault .odoLost (modeLaw_congr (s := s) rfl hs)

theorem modeLaw_watchdogExpiry {s : State} (hs : ModeLaw s) : ModeLaw (watchdogExpiry s) := by
  unfold watchdogExpiry
  split
  · exact hs
  · exact modeLaw_watchdogExpires (modeLaw_congr (s := s) rfl hs)

/-- An ODOMETRY frame makes the upstream port known, if it was not (R3). -/
theorem modeLaw_takeOdometry (p : Port) (hop : Byte) (x : Word24) (v : Word16) (d : Byte) {s : State} (hs : ModeLaw s) :
    ModeLaw (takeOdometry p hop x v d s) := by
  have hnoted {t : State} (hm : t.mode = (odometryNotice (clampSpeed v) s).mode) (hu : t.line.upstream = some p)
      (hk : t.line.masked = s.line.masked) : ModeLaw t := by
    obtain ⟨hcurrent, hsaved, hheld⟩ :=
      ((modeLaw_iff s).1 hs).mono (admits_mono (t := t) (fun _ => by rw [hu]; nofun) (by rw [hk]))
    exact (modeLaw_iff t).2 (hm ▸ ⟨hcurrent, hsaved, hheld⟩)
  unfold takeOdometry
  dsimp only
  split
  · exact modeLaw_takeFault .lineTurn (hnoted rfl rfl rfl)
  · exact hnoted rfl rfl rfl

/-! ### The requests -/

theorem modeLaw_takeParamSet (r : Request) {s : State} (hs : ModeLaw s) : ModeLaw (takeParamSet r s).1 := by
  have hset (x : Param) (v : Int) : ModeLaw (setParam x v s) := modeLaw_congr (by cases x <;> rfl) hs
  unfold takeParamSet
  split
  · exact hs
  · split
    · exact hs
    · next x _ =>
      split
      · exact modeLaw_congr (s := s) rfl hs
      · dsimp only
        rcases applyParam_cases x (appliedValue x s.params (argInt16 r.args 1)) s with h | ⟨-, -, -, h⟩ <;> rw [h]
        · exact hset ..
        · exact modeLaw_watchdogExpires (hset ..)

/-- The checks of MODE SET are those of the law (R124). -/
theorem modeLaw_takeModeSet (r : Request) {s : State} (hs : ModeLaw s) : ModeLaw (takeModeSet r s).1 := by
  unfold takeModeSet
  split
  · exact hs
  · split
    · exact hs
    · next target _ =>
      split_ifs with _ hmasked hunconnected
      · exact hs
      · exact hs
      · exact hs
      · have htarget : Admits s target :=
          ⟨fun ht hu => hunconnected ⟨ht, hu⟩, fun ht => Bool.eq_false_iff.2 fun hm => hmasked ⟨ht, hm⟩⟩
        exact modeLaw_changeMode _ (((modeLaw_iff s).1 hs).applyModeSet (admits_off s) htarget)

/-- HOLD returns to the mode that a fault would save (R128, R131). -/
theorem holdReturnOf_eq_savedFrom {m : ModeController} (hf : m.mode ≠ .fault) (hh : m.mode ≠ .hold) :
    holdReturnOf m = savedFrom m := by
  unfold holdReturnOf savedFrom
  cases hm : m.mode
  case hold => exact absurd hm hh
  case fault => exact absurd hm hf
  all_goals rfl

theorem modeLaw_takeHold (r : Request) {s : State} (hs : ModeLaw s) : ModeLaw (takeHold r s).1 := by
  obtain ⟨hcurrent, hsaved, hheld⟩ := (modeLaw_iff s).1 hs
  cases hflag : s.mode.holdFlag with
  | true => rwa [takeHold_again hflag]
  | false =>
    have hh : s.mode.mode ≠ .hold := fun hm => absurd (hflag.symm.trans (hheld hm).1) nofun
    by_cases hf : s.mode.mode = .fault
    · rw [takeHold_fault hflag hf]
      exact (modeLaw_iff _).2 ⟨hcurrent, hsaved, fun hm => absurd hm hh⟩
    · rw [takeHold_entered hflag hf hh]
      refine FramesPlaced.modeLaw (s := s) (framesPlaced_report _ rfl) ?_
      rw [modeChanged_mode]
      exact .of_held rfl rfl rfl (holdReturnOf_eq_savedFrom hf hh ▸ hcurrent) hsaved

theorem modeLaw_takeRelease (r : Request) {s : State} (hs : ModeLaw s) : ModeLaw (takeRelease r s).1 := by
  obtain ⟨hcurrent, hsaved, hheld⟩ := (modeLaw_iff s).1 hs
  unfold takeRelease
  split
  · refine modeLaw_answerHold .released ?_
    split
    · next hm =>
      obtain ⟨ret, hret⟩ := Option.ne_none_iff_exists'.1 (hheld hm).2
      have hhome : savedFrom s.mode = ret := (savedFrom_of (.inr (.inl ⟨hm, hret⟩))).2
      refine modeLaw_changeMode _ (.of_chosen (c := ret) (.inl ?_) (hhome ▸ hcurrent) hsaved)
      simp only [hret, Option.getD_some]
    · next hm => exact (modeLaw_iff _).2 ⟨hcurrent, hsaved, fun h => absurd h hm⟩
  · exact hs

/-- RESUME leads to the saved mode, by way of HOLD while the flag is set (R134). -/
theorem modeLaw_takeResume (r : Request) {s : State} (hs : ModeLaw s) : ModeLaw (takeResume r s).1 := by
  obtain ⟨-, hsaved, -⟩ := (modeLaw_iff s).1 hs
  unfold takeResume
  split_ifs with _ _ hflag
  · exact hs
  · exact hs
  · exact modeLaw_changeMode _ (.of_held rfl rfl hflag hsaved hsaved)
  · exact modeLaw_changeMode _ (.of_chosen (.inl rfl) hsaved hsaved)

/-- The effects of newly masked features, on the state with the masks after the request: where PREDICTIVE is among them
no mode held is PREDICTIVE any more (R136, R166). -/
theorem modeLaw_maskEffects {s : State} (hs : ModeLaw s) {after : Features}
    (hjoined : s.line.masked.predictive = true → after.predictive = true) :
    ModeLaw (maskEffects s.line.masked after { s with line := { s.line with masked := after } }) := by
  have hpred : ModeLaw (if after.predictive && !s.line.masked.predictive
      then maskPredictive { s with line := { s.line with masked := after } }
      else { s with line := { s.line with masked := after } }) := by
    split
    · refine modeLaw_changeMode _ (((modeLaw_iff s).1 hs).maskedMode fun c hc => ?_)
      cases c with
      | off => exact admits_off _
      | reactive => exact ⟨hc.1, nofun⟩
      | predictive => exact ⟨fun _ => hc.1 nofun, nofun⟩
    · next hkept =>
      have hsame : after.predictive = s.line.masked.predictive := by
        cases hbefore : s.line.masked.predictive with
        | true => exact hjoined hbefore
        | false => simpa only [hbefore, Bool.not_false, Bool.and_true, Bool.not_eq_true] using hkept
      exact (modeLaw_iff _).2 (((modeLaw_iff s).1 hs).mono (admits_mono id hsame))
  have haudit (x : State) (h : ModeLaw x) :
      ModeLaw (if after.audit && !s.line.masked.audit then maskAudit x else x) := by
    split
    · exact modeLaw_congr (s := x) rfl h
    · exact h
  have hload (x : State) (h : ModeLaw x) : ModeLaw (if after.load && !s.line.masked.load then maskLoad x else x) := by
    split
    · exact modeLaw_congr (s := x) rfl h
    · exact h
  exact hload _ (haudit _ hpred)

theorem modeLaw_takeFeatureMask (r : Request) {s : State} (hs : ModeLaw s) : ModeLaw (takeFeatureMask r s).1 := by
  unfold takeFeatureMask
  split
  · exact hs
  · exact modeLaw_maskEffects hs fun hm => by simp [joinFeatures, hm]

/-- After RESTART the part centres for OFF (R137). -/
theorem modeLaw_takeRestart (r : Request) (s : State) : ModeLaw (takeRestart r s).1 := by
  have hmode (x : State) : ModeLaw (restartMode x) :=
    modeLaw_changeMode _ (.of_chosen (.inr ⟨rfl, rfl⟩) (admits_off _) (admits_off _))
  exact modeLaw_congr (s := restartMode (restartStore { s with
    queue := flushQueue s.queue, demand := restartedDemand s.demand })) rfl (hmode _)

theorem modeLaw_take {row : RequestRow} (hm : row ∈ catalogue) (r : Request) {s : State} (hs : ModeLaw s) :
    ModeLaw (row.take r s).1 := by
  have hrows : ∀ row ∈ modeRows, ModeLaw (row.take r s).1 := by
    simp only [modeRows, List.forall_mem_cons]
    exact ⟨modeLaw_takeParamSet r hs, modeLaw_takeModeSet r hs, modeLaw_takeHold r hs, modeLaw_takeRelease r hs,
      modeLaw_takeResume r hs, modeLaw_takeFeatureMask r hs, modeLaw_takeRestart r s, nofun⟩
  rcases ownerSparesMode_catalogue row hm with hrow | hspares
  · exact hrows row hrow
  · exact modeLaw_congr (hspares r s) hs

/-! ### Acknowledgements and steps -/

theorem modeLaw_judgeCentring (angle : Int) {s : State} (hs : ModeLaw s) : ModeLaw (judgeCentring angle s) := by
  obtain ⟨hcurrent, hsaved, -⟩ := (modeLaw_iff s).1 hs
  unfold judgeCentring
  split
  · next h =>
    have hhome : savedFrom s.mode = s.mode.target := (savedFrom_of (.inr (.inr ⟨h.1, rfl⟩))).2
    exact modeLaw_changeMode _ (.of_chosen (.inl rfl) (hhome ▸ hcurrent) hsaved)
  · exact hs

theorem modeLaw_judgeSettle (angle : Int) {s : State} (hs : ModeLaw s) : ModeLaw (judgeSettle angle s) := by
  have hcounted (n : Nat) : ModeLaw { s with mode := { s.mode with settle := n } } := by
    obtain ⟨hcurrent, hsaved, hheld⟩ := (modeLaw_iff s).1 hs
    exact (modeLaw_iff _).2 ⟨hcurrent, hsaved, hheld⟩
  unfold judgeSettle
  split_ifs
  · exact hs
  · exact hcounted _
  · exact modeLaw_answerHold _ (hcounted _)
  · exact hcounted _

theorem modeLaw_takeAck (kind : DriveKind) (angle : Int) (status : AckStatus) {s : State} (hs : ModeLaw s) :
    ModeLaw (takeAck kind angle status s) := by
  have hnoted : ModeLaw { s with mode := noteAck kind angle status s.mode } := by
    obtain ⟨hcurrent, hsaved, hheld⟩ := (modeLaw_iff s).1 hs
    exact (modeLaw_iff _).2 ⟨hcurrent, hsaved, hheld⟩
  unfold takeAck
  split_ifs
  · exact modeLaw_takeFault _ hnoted
  · exact hnoted
  · exact modeLaw_judgeSettle _ (modeLaw_judgeCentring _ hnoted)

theorem modeLaw_receiveAck (q : Byte) (x : Word16) (st : Byte) {s : State} (hs : ModeLaw s) :
    ModeLaw (receiveAck q x st s) := by
  unfold receiveAck
  split
  · exact modeLaw_congr ((framesPlaced_auditAnswer ..).modeView_eq (by rw [auditAnswer_eq]))
      (modeLaw_takeAck _ _ _ (modeLaw_congr (s := s) rfl hs))
  · exact modeLaw_congr (s := s) rfl hs

/-- A step moves the previous command and the settle count, and beside that at most takes a fault (R98, R142). -/
theorem modeLaw_runStep {s : State} (hs : ModeLaw s) : ModeLaw (runStep s) := by
  obtain ⟨hcurrent, hsaved, hheld⟩ := (modeLaw_iff s).1 hs
  have hnoted : ModesAdmitted (Admits s) (notedMiss (formedStep s)).mode := ⟨hcurrent, hsaved, hheld⟩
  have hjudged : ModesAdmitted (Admits s) (judged (formedStep s)).mode := by
    unfold judged
    split
    · exact hnoted.takeFault _
    · exact hnoted
  obtain ⟨-, -, -, -, -, -, -, -, -, -, hmode, -⟩ := runStep_items s
  exact (framesPlaced_runStep s).modeLaw (hmode ▸ hjudged)

/-! ### Commands -/

theorem lineBlind_modeLaw : LineBlind ModeLaw where
  line _ _ hu _ hk _ _ hs := modeLaw_congr (by simp only [modeView, hu, hk]) hs
  held _ _ hs := hs
  free _ _ hs := hs

theorem timeBlind_modeLaw : TimeBlind ModeLaw where
  now _ _ hs := hs
  pending _ _ hs := hs

/-- Every command keeps the law. -/
theorem modeLaw_exec {c : Instr} {s t : State} (hs : ModeLaw s) (he : exec c s = .next t) : ModeLaw t :=
  lineBlind_modeLaw.exec (fun _ hm r _ h => modeLaw_take hm r h)
    (fun _ _ _ => modeLaw_congr rfl modeLaw_reset)
    (fun _ _ _ _ _ _ h => modeLaw_takeOdometry _ _ _ _ _ h)
    (fun _ h => modeLaw_watchdogExpiry h)
    (fun _ _ _ _ _ _ h => modeLaw_congr (modeView_takeFix ..) h)
    (fun _ _ _ h => modeLaw_congr (modeView_takeSample ..) h)
    (fun _ _ _ h => modeLaw_congr (modeView_senseFrame ..) h)
    (fun _ _ _ _ h => modeLaw_receiveAck _ _ _ h)
    (fun _ h => modeLaw_runStep h)
    (fun _ h => modeLaw_congr (modeView_verifyCompletes _) h) hs he

/-- Settles O12: every command keeps the law, so every step does. -/
theorem stepKeepsModeLaw : Obligations.StepKeepsModeLaw := fun _ _ hs he =>
  lineBlind_modeLaw.step timeBlind_modeLaw (fun _ _ _ => modeLaw_exec) hs he

end Sys2Proof.Machine

/-! SUPPORT. Every change of mode is reported (R123), whatever else the same command places before or after it. -/

namespace Sys2Proof.Machine

open Sys2Proof.Safety

/-! ### What stands before and after a MODE report -/

/-- From s to t at most n report tags are used, and no count of dropped own frames has fallen. -/
structure LineAdvances (n : Nat) (s t : State) : Prop where
  drops : ∀ p x, DropsPast x (portOf s.line p) → DropsPast x (portOf t.line p)
  tag : ∃ k ≤ n, t.line.reportTag = s.line.reportTag + BitVec.ofNat 16 k

theorem LineAdvances.ofPorts {s t : State} (ha : t.line.portA = s.line.portA) (hb : t.line.portB = s.line.portB)
    (htag : t.line.reportTag = s.line.reportTag) : LineAdvances 0 s t := by
  refine ⟨fun p x h => ?_, 0, Nat.le_refl 0, by simp [htag]⟩
  cases p
  · rwa [portOf, ha]
  · rwa [portOf, hb]

theorem FramesPlaced.advances {n : Nat} {s t : State} (h : FramesPlaced n s t) (g : Grows s t) : LineAdvances n s t :=
  ⟨fun p => (g.port p).drops, h.tag⟩

/-- Frames placed after a MODE report: they leave it in its place, use at most n report tags, and leave the mode
controller alone but for the settle count, which no MODE report shows. -/
structure ModeFollows (n : Nat) (t u : State) : Prop extends Grows t u where
  tag : ∃ k ≤ n, u.line.reportTag = t.line.reportTag + BitVec.ofNat 16 k
  mode : ∃ settle, u.mode = { t.mode with settle := settle }

theorem FramesPlaced.follows {n : Nat} {t u : State} (h : FramesPlaced n t u) (g : Grows t u)
    (hm : ∃ settle, u.mode = { t.mode with settle := settle }) : ModeFollows n t u := ⟨g, h.tag, hm⟩

theorem ModeFollows.ofEq {t u : State} (hl : u.line = t.line)
    (hm : ∃ settle, u.mode = { t.mode with settle := settle }) : ModeFollows 0 t u :=
  (FramesPlaced.ofEq hl).follows (.ofEq hl) hm

theorem modeFollows_sendReply (p : Port) (source : Byte) (tag : Word16) (code : Byte) (result : ResultCode)
    (payload : ReplyPayload) (s : State) : ModeFollows 0 s (sendReply p source tag code result payload s) :=
  (framesPlaced_sendReply ..).follows (grows_sendReply ..) ⟨_, rfl⟩

theorem modeFollows_forward (p : Port) (h : Header) (b : Body) (s : State) : ModeFollows 0 s (forward p h b s) :=
  ⟨grows_forward .., ⟨0, Nat.le_refl 0, by simp⟩, _, rfl⟩

theorem modeFollows_answerHold (o : SettleOutcome) {s t : State} (hl : t.line = s.line)
    (hm : ∃ settle, t.mode = { s.mode with settle := settle }) : ModeFollows 0 s (answerHold o t) :=
  ((FramesPlaced.ofEq hl).trans (framesPlaced_answerHold o t)).follows ((Grows.ofEq hl).trans (grows_answerHold o t))
    (by rwa [answerHold_mode])

/-- The settle of a pending HOLD reply moves the settle count and places the reply (R129). -/
theorem modeFollows_judgeSettle (angle : Int) (s : State) : ModeFollows 0 s (judgeSettle angle s) := by
  unfold judgeSettle
  split_ifs
  · exact .ofEq rfl ⟨_, rfl⟩
  · exact .ofEq rfl ⟨_, rfl⟩
  · exact modeFollows_answerHold _ rfl ⟨_, rfl⟩
  · exact .ofEq rfl ⟨_, rfl⟩

/-! ### A change of mode told -/

/-- A change of mode from s to t is reported under one of at most n tags that are used (R123). -/
structure ModeTold (n : Nat) (s t : State) : Prop where
  told : t.mode.mode ≠ s.mode.mode → ∃ j k reason, j < k ∧ k ≤ n
    ∧ t.line.reportTag = s.line.reportTag + BitVec.ofNat 16 k
    ∧ ReportPlaced s t (s.line.reportTag + BitVec.ofNat 16 j) (modeReport s.mode.mode reason t.mode)

namespace ModeTold

variable {m n : Nat} {s t u : State}

theorem of_same (h : t.mode.mode = s.mode.mode) : ModeTold n s t := ⟨fun hne => absurd h hne⟩

theorem mono (h : ModeTold m s t) (hmn : m ≤ n) : ModeTold n s t := ⟨fun hne =>
  let ⟨j, k, reason, hjk, hk, hplaced⟩ := h.told hne
  ⟨j, k, reason, hjk, hk.trans hmn, hplaced⟩⟩

/-- The report itself, sent after other frames of the action. -/
theorem of_report (h : LineAdvances n s t) (reason : ModeReason) {c : ModeController} (hc : t.mode = c) :
    ModeTold (n + 1) s (sendReport (modeReport s.mode.mode reason c) t) := by
  subst hc
  obtain ⟨hdrops, j, hj, htag⟩ := h
  refine ⟨fun _ => ⟨j, j + 1, reason, Nat.lt_succ_self j, Nat.succ_le_succ hj, ?_, ?_⟩⟩
  · rw [sendReport_line_reportTag, htag, BitVec.add_assoc, ← BitVec.ofNat_add]
  · rw [sendReport_mode, ← htag]
    exact reportPlaced_since hdrops (sendReport_placed (modeReport s.mode.mode reason t.mode) t)

/-- What comes before, in the mode held, takes tags of its own. -/
theorem since (h : ModeTold n t u) (ha : LineAdvances m s t) (hm : t.mode.mode = s.mode.mode) :
    ModeTold (m + n) s u := by
  refine ⟨fun hne => ?_⟩
  obtain ⟨hdrops, i, hi, htag⟩ := ha
  obtain ⟨j, k, reason, hjk, hk, htag', hplaced⟩ := h.told (hm ▸ hne)
  rw [hm, htag, BitVec.add_assoc, ← BitVec.ofNat_add] at hplaced
  rw [htag, BitVec.add_assoc, ← BitVec.ofNat_add] at htag'
  exact ⟨i + j, i + k, reason, by omega, by omega, htag', reportPlaced_since hdrops hplaced⟩

/-- The same begun at a state that differs in neither the mode, the ports nor the report tag. -/
theorem begun (h : ModeTold n t u) (ha : LineAdvances 0 s t) (hm : t.mode.mode = s.mode.mode) : ModeTold n s u := by
  have hsince := h.since ha hm
  rwa [Nat.zero_add] at hsince

/-- What follows leaves the report where it stands. -/
theorem followed (h : ModeTold m s t) (hf : ModeFollows n t u) : ModeTold (m + n) s u := by
  refine ⟨fun hne => ?_⟩
  obtain ⟨hgrows, ⟨i, hi, htag⟩, settle, hmode⟩ := hf
  rw [hmode] at hne
  obtain ⟨j, k, reason, hjk, hk, htag', hplaced⟩ := h.told hne
  refine ⟨j, k + i, reason, by omega, by omega, ?_, ?_⟩
  · rw [htag, htag', BitVec.add_assoc, ← BitVec.ofNat_add]
  · rw [hmode]
    exact reportPlaced_grows hplaced hgrows

end ModeTold

theorem modeTold_changeMode (reason : ModeReason) (m : ModeController) (s : State) :
    ModeTold 1 s (changeMode reason m s) := by
  by_cases h : m.mode = s.mode.mode
  · exact .of_same (by rw [changeMode_mode, h])
  · rw [changeMode_changed h]
    exact .of_report (s := s) (t := { s with mode := m }) (.ofPorts rfl rfl rfl) reason rfl

/-- The MODE report of a fault comes after the AUDIT report and the FAULT report (R131). -/
theorem modeTold_takeFault (cause : FaultCause) (s : State) : ModeTold 3 s (takeFault cause s) := by
  by_cases hf : s.mode.mode = .fault
  · exact .of_same (by rw [takeFault_mode, if_pos hf]; rfl)
  · rw [takeFault, if_neg hf, enterFault]
    have hmode : FramesPlaced 0 s { s with mode := faultedMode cause s.mode } := .ofEq rfl
    have hplaced := ((hmode.trans (framesPlaced_answerHold .faulted _)).trans
      (framesPlaced_completeAudit .fault _)).trans (framesPlaced_sendReport
        (faultReport cause false (faultedMode cause s.mode)) _)
    have hgrows : Grows s { s with mode := faultedMode cause s.mode } := .ofEq rfl
    refine .of_report (hplaced.advances (((hgrows.trans (grows_answerHold ..)).trans (grows_completeAudit ..)).trans
      (grows_sendReport ..))) .fault ?_
    rw [sendReport_mode, completeAudit_eq, answerHold_eq]

/-! ### The blocks -/

theorem modeTold_watchdogExpires (s : State) : ModeTold 3 s (watchdogExpires s) :=
  (modeTold_takeFault .odoLost { s with pos := { s.pos with watchdog := .idle } }).begun (.ofPorts rfl rfl rfl) rfl

theorem modeTold_watchdogExpiry (s : State) : ModeTold 3 s (watchdogExpiry s) := by
  unfold watchdogExpiry
  split
  · exact .of_same rfl
  · exact (modeTold_watchdogExpires (clockTo ((watchdogDue s).getD 0) s)).begun (.ofPorts rfl rfl rfl) rfl

theorem modeTold_takeOdometry (p : Port) (hop : Byte) (x : Word24) (v : Word16) (d : Byte) (s : State) :
    ModeTold 3 s (takeOdometry p hop x v d s) := by
  unfold takeOdometry
  dsimp only
  split
  · exact (modeTold_takeFault .lineTurn _).begun (.ofPorts rfl rfl rfl) rfl
  · exact .of_same rfl

theorem modeTold_takeAck (kind : DriveKind) (angle : Int) (status : AckStatus) (s : State) :
    ModeTold 3 s (takeAck kind angle status s) := by
  have hnoted {u : State} {n : Nat} (h : ModeTold n { s with mode := noteAck kind angle status s.mode } u) :
      ModeTold n s u := h.begun (.ofPorts rfl rfl rfl) rfl
  have hcentring (x : State) : ModeTold 1 x (judgeCentring angle x) := by
    unfold judgeCentring
    split
    · exact modeTold_changeMode ..
    · exact .of_same rfl
  unfold takeAck
  split_ifs
  · exact hnoted (modeTold_takeFault ..)
  · exact .of_same rfl
  · exact hnoted (((hcentring _).followed (modeFollows_judgeSettle ..)).mono (by omega))

theorem modeTold_takeAnswer (x : Drive) (raw : Int) (status : AckStatus) (s : State) :
    ModeTold 4 s (takeAnswer x raw status s) := by
  have hanswered (u : State) (stroke angle : Int) : ModeFollows 1 u (auditAnswer x.seq stroke angle status u) :=
    (framesPlaced_auditAnswer ..).follows (grows_auditAnswer ..) ⟨u.mode.settle, by rw [auditAnswer_eq]⟩
  unfold takeAnswer
  refine ModeTold.followed (m := 3) ?_ (hanswered ..)
  exact ModeTold.begun (s := s) (modeTold_takeAck ..) (.ofPorts rfl rfl rfl) rfl

theorem modeTold_receiveAck (q : Byte) (x : Word16) (st : Byte) (s : State) : ModeTold 4 s (receiveAck q x st s) := by
  unfold receiveAck
  split
  · exact modeTold_takeAnswer ..
  · exact .of_same rfl

/-- What a step has placed before its miss judgement is the report of a latch it sets (R109). -/
theorem advances_reportedStep (s : State) : LineAdvances 1 s (reportedStep s) := by
  have hbegun : FramesPlaced 0 s (beginStep s) := .ofEq rfl
  have hgrows : Grows s (beginStep s) := .ofEq rfl
  unfold reportedStep
  split
  · exact (hbegun.trans (framesPlaced_sendReport ..)).advances (hgrows.trans (grows_sendReport ..))
  · exact (hbegun.mono (Nat.zero_le 1)).advances hgrows

/-- A step changes the mode where it finds the third miss in a row; a DISAGREE report may come before, and the fault
leaves the hand-over no tag to complete (R98, R142, R172). -/
theorem modeTold_runStep (s : State) : ModeTold 4 s (runStep s) := by
  obtain ⟨-, -, -, -, -, -, -, -, -, -, hmode, -⟩ := runStep_items s
  cases hsilent : silent s.drive with
  | false => exact .of_same (by rw [hmode, judged_spared hsilent]; rfl)
  | true =>
    by_cases hf : s.mode.mode = .fault
    · exact .of_same (by rw [hmode, judged_silent hsilent, (takeFault_noted ..).1, hf])
    · have hformed := advances_reportedStep s
      have hfault : ModeTold 4 s (takeFault .driveSilent (notedMiss (formedStep s))) :=
        (modeTold_takeFault ..).since (m := 1) ⟨hformed.drops, hformed.tag⟩ rfl
      have hidle : (takeFault .driveSilent (notedMiss (formedStep s))).audit.pending = none :=
        (takeFault_entered (s := notedMiss (formedStep s)) hf).1
      have hhanded (u : State) (hu : u.audit.pending = none) :
          ModeFollows 0 u (auditHandover (stepSummary s) (stepDrive s) u) := by
        have hplaced := framesPlaced_auditHandover (stepSummary s) (stepDrive s) u
        rw [if_pos hu] at hplaced
        exact hplaced.follows (grows_auditHandover ..) ⟨u.mode.settle, by rw [auditHandover_eq]⟩
      rw [runStep_eq, judged_silent hsilent]
      refine ModeTold.followed (n := 0) ?_ (hhanded _ hidle)
      exact hfault.followed (n := 0) (.ofEq rfl ⟨_, rfl⟩)

/-! ### The requests -/

theorem modeTold_takeParamSet (r : Request) (s : State) : ModeTold 3 s (takeParamSet r s).1 := by
  unfold takeParamSet
  split
  · exact .of_same rfl
  · split
    · exact .of_same rfl
    · next x _ =>
      split
      · exact .of_same rfl
      · have hset (v : Int) : LineAdvances 0 s (setParam x v s) ∧ (setParam x v s).mode.mode = s.mode.mode := by
          cases x <;> exact ⟨.ofPorts rfl rfl rfl, rfl⟩
        dsimp only
        rcases applyParam_cases x (appliedValue x s.params (argInt16 r.args 1)) s with h | ⟨-, -, -, h⟩ <;> rw [h]
        · exact .of_same (hset _).2
        · exact (modeTold_watchdogExpires _).begun (hset _).1 (hset _).2

theorem modeTold_takeModeSet (r : Request) (s : State) : ModeTold 1 s (takeModeSet r s).1 := by
  unfold takeModeSet
  split
  · exact .of_same rfl
  · split
    · exact .of_same rfl
    · split_ifs
      · exact .of_same rfl
      · exact .of_same rfl
      · exact .of_same rfl
      · exact modeTold_changeMode ..

theorem modeTold_takeHold (r : Request) (s : State) : ModeTold 1 s (takeHold r s).1 := by
  unfold takeHold
  split_ifs
  · exact .of_same rfl
  · exact .of_same rfl
  · exact (modeTold_changeMode ..).begun (.ofPorts rfl rfl rfl) rfl

theorem modeTold_takeRelease (r : Request) (s : State) : ModeTold 1 s (takeRelease r s).1 := by
  unfold takeRelease
  split
  · refine ModeTold.followed (m := 1) (n := 0) ?_ (modeFollows_answerHold .released rfl ⟨_, rfl⟩)
    split
    · exact modeTold_changeMode ..
    · exact .of_same rfl
  · exact .of_same rfl

theorem modeTold_takeResume (r : Request) (s : State) : ModeTold 1 s (takeResume r s).1 := by
  unfold takeResume
  split_ifs
  · exact .of_same rfl
  · exact .of_same rfl
  · exact modeTold_changeMode ..
  · exact modeTold_changeMode ..

theorem modeTold_maskEffects (before after : Features) (s : State) : ModeTold 1 s (maskEffects before after s) := by
  have hpred : ModeTold 1 s (if after.predictive && !before.predictive then maskPredictive s else s) := by
    split
    · exact modeTold_changeMode ..
    · exact .of_same rfl
  have haudit (x : State) : ModeFollows 0 x (if after.audit && !before.audit then maskAudit x else x) := by
    split <;> exact .ofEq rfl ⟨_, rfl⟩
  have hload (x : State) : ModeFollows 0 x (if after.load && !before.load then maskLoad x else x) := by
    split <;> exact .ofEq rfl ⟨_, rfl⟩
  exact (hpred.followed (haudit _)).followed (hload _)

theorem modeTold_takeFeatureMask (r : Request) (s : State) : ModeTold 1 s (takeFeatureMask r s).1 := by
  unfold takeFeatureMask
  split
  · exact .of_same rfl
  · exact (modeTold_maskEffects ..).begun (.ofPorts rfl rfl rfl) rfl

/-- The MODE report of a RESTART comes after the FAULTED reply to a pending HOLD (R168). -/
theorem modeTold_takeRestart (r : Request) (s : State) : ModeTold 1 s (takeRestart r s).1 := by
  have hmode (x : State) : ModeTold 1 x (restartMode x) :=
    (modeTold_changeMode ..).begun ((framesPlaced_answerHold ..).advances (grows_answerHold ..))
      (by rw [answerHold_mode])
  have hstore := hmode (restartStore { s with queue := flushQueue s.queue, demand := restartedDemand s.demand })
  exact (hstore.begun (s := s) (.ofPorts rfl rfl rfl) rfl).followed (n := 0) (.ofEq rfl ⟨_, rfl⟩)

theorem modeTold_take {row : RequestRow} (hm : row ∈ catalogue) (r : Request) (s : State) :
    ModeTold 3 s (row.take r s).1 := by
  have hrows : ∀ row ∈ modeRows, ModeTold 3 s (row.take r s).1 := by
    have hone {t : State} (h : ModeTold 1 s t) : ModeTold 3 s t := h.mono (by omega)
    simp only [modeRows, List.forall_mem_cons]
    exact ⟨modeTold_takeParamSet r s, hone (modeTold_takeModeSet r s), hone (modeTold_takeHold r s),
      hone (modeTold_takeRelease r s), hone (modeTold_takeResume r s), hone (modeTold_takeFeatureMask r s),
      hone (modeTold_takeRestart r s), nofun⟩
  rcases ownerSparesMode_catalogue row hm with hrow | hspares
  · exact hrows row hrow
  · exact .of_same (congrArg (·.1.mode) (hspares r s))

/-! ### Commands -/

theorem modeTold_takeRequest {row : RequestRow} (hm : row ∈ catalogue) (p : Port) (h : Header) (args : List Byte)
    (s : State) : ModeTold 3 s (takeRequest row p h args s) := by
  have htaken {r : Request} {t : State} {a : Answer}
      (h : row.take r { s with line := { s.line with requestsTaken := count16 s.line.requestsTaken } } = (t, a)) :
      ModeTold 3 s t := by
    have htold := modeTold_take hm r { s with line := { s.line with requestsTaken := count16 s.line.requestsTaken } }
    rw [h] at htold
    exact htold.begun (.ofPorts rfl rfl rfl) rfl
  unfold takeRequest
  dsimp only
  split
  · exact .of_same rfl
  · split
    · next heq => exact (htaken heq).followed (modeFollows_sendReply ..)
    · next heq => exact htaken heq

theorem takeUnknown_mode (p : Port) (h : Header) (payload : List Byte) (s : State) :
    (takeUnknown p h payload s).mode = s.mode := by
  unfold takeUnknown
  dsimp only
  split <;> rfl

theorem modeTold_takePayload (p : Port) (h : Header) (payload : List Byte) (s : State) :
    ModeTold 3 s (takePayload p h payload s) := by
  unfold takePayload
  split
  · exact .of_same (by rw [takeUnknown_mode])
  · split
    · next row hf => exact modeTold_takeRequest (List.mem_of_find?_eq_some hf) ..
    · exact .of_same (by rw [takeUnknown_mode])

/-- A change of mode by a frame handed to a block: the frame is counted before and may be forwarded after. -/
theorem ModeTold.received {n : Nat} {taking : State → State} (ht : ∀ s, ModeTold n s (taking s)) (p : Port)
    (s : State) : ModeTold n s (taking (countReceived p s)) := by
  have hport (x : PortState) : PortGrows x { x with received := count16 x.received } :=
    ⟨fun _ h => h, fun _ h => .inl h, fun _ h => h⟩
  have hcounted : Grows s (countReceived p s) := grows_onPort hport s
  exact (ht (countReceived p s)).begun ⟨fun q => (hcounted.port q).drops, 0, Nat.le_refl 0, by simp⟩ rfl

theorem modeTold_receiveRequest {n : Nat} {taking : State → State} (ht : ∀ s, ModeTold n s (taking s)) (p : Port)
    (h : Header) (payload : List Byte) (s : State) : ModeTold n s (receiveRequest taking p h payload s) := by
  have htaken : ModeTold n s (if takesRequest (countReceived p s) h.dest then taking (countReceived p s)
      else countReceived p s) := by
    split
    · exact .received ht p s
    · exact .of_same rfl
  unfold receiveRequest
  dsimp only
  split
  · exact .of_same rfl
  · split
    · exact htaken
    · exact htaken.followed (modeFollows_forward ..)

/-- Every command but DEVICE_RESET tells of its change of mode, if it makes one. -/
theorem modeTold_exec {c : Instr} {s t : State} (hreset : ∀ e, c ≠ .deviceReset e) (he : exec c s = .next t) :
    ModeTold 4 s t := by
  have hblock {f : State → State} (hu : unlessHeld f s = .next t) (hf : ModeTold 4 s (f s)) : ModeTold 4 s t :=
    of_unlessHeld (P := ModeTold 4 s) (.of_same rfl) hu hf
  have hspared {f : State → State} (hu : unlessHeld f s = .next t) (hf : modeView (f s) = modeView s) :
      ModeTold 4 s t := hblock hu (.of_same (congrArg (·.1.mode) hf))
  have hrequest {taking : State → State} {p : Port} {h : Header} {payload : List Byte}
      (hu : unlessHeld (receiveRequest taking p h payload) s = .next t) (ht : ∀ s, ModeTold 3 s (taking s)) :
      ModeTold 4 s t := hblock hu ((modeTold_receiveRequest ht ..).mono (by omega))
  cases c
  case deviceReset e => exact absurd rfl (hreset e)
  case odometry =>
    refine hblock he (ModeTold.mono (m := 3) ?_ (by omega))
    exact (ModeTold.received (modeTold_takeOdometry _ _ _ _ _) _ s).followed (modeFollows_forward ..)
  case odoLost => exact hblock he ((modeTold_watchdogExpiry s).mono (by omega))
  case fix => exact hblock he (.of_same (congrArg (·.1.mode) (modeView_takeFix ..)))
  case sample => exact hblock he (.of_same (congrArg (·.1.mode) (modeView_takeSample ..)))
  case sense => exact hspared he (modeView_senseFrame ..)
  case localFrameDiscard => cases he; exact .of_same rfl
  case driveAck => exact hblock he (modeTold_receiveAck ..)
  case stepExpiry => exact hblock he (modeTold_runStep s)
  case verifyCompletion => exact hspared he (modeView_verifyCompletes s)
  case transmissionCompletion => exact hblock he (.of_same rfl)
  case checkError => exact hblock he (.of_same rfl)
  case frameForward p h body =>
    cases body
    · exact hrequest he (modeTold_takePayload _ _ _)
    · exact hblock he (.of_same rfl)
  case trailDrop => exact hrequest he (modeTold_takePayload _ _ _)
  case requestUnknown => exact hrequest he fun s => .of_same (by rw [takeUnknown_mode])
  all_goals exact hrequest he (modeTold_takeRequest (by simp [catalogue]) _ _ _)

/-- Settles O20: the report told of holds the items of the mode as it then stands. -/
theorem modeChangesReported : Obligations.ModeChangesReported := by
  intro c s t he hreset hne
  obtain ⟨j, k, reason, hjk, hk, htag, hplaced⟩ := (modeTold_exec hreset he).told hne
  exact ⟨j, k, _, hjk, hk, htag, hplaced, rfl, rfl, rfl, rfl, rfl, rfl, rfl⟩

end Sys2Proof.Machine

/-! SUPPORT. The stroke conversions there and back (R148, R149), segment by segment: two segments agree on the stroke
they share, so the inverse conversion may be read off in any segment that holds the stroke. -/

namespace Sys2Proof.Machine

open Sys2Proof.Safety

/-! ### The divisions (R148, R149) -/

theorem nearestDiv_mul {d : Int} (hd : 0 < d) (k : Int) : nearestDiv (k * d) d = k := by
  have hhalf : d / (2 * d) = 0 := Int.ediv_eq_zero_of_lt hd.le (by omega)
  calc (2 * (k * d) + d) / (2 * d) = (d + k * (2 * d)) / (2 * d) := by congr 1; ring
    _ = k := by rw [Int.add_mul_ediv_right _ _ (by omega), hhalf, zero_add]

/-- The division to the nearest integer misses by at most half its divisor (R149). -/
theorem nearestDiv_close (n : Int) {d : Int} (hd : 0 < d) : |2 * (d * nearestDiv n d) - 2 * n| ≤ d := by
  have hfrom : 2 * d * nearestDiv n d ≤ 2 * n + d := Int.mul_ediv_self_le (by omega)
  have hto : 2 * n + d < 2 * d * nearestDiv n d + 2 * d := Int.lt_mul_ediv_self_add (by omega)
  rw [mul_assoc] at hfrom hto
  rw [abs_le]
  omega

/-- How far the division of the forward conversion may miss, in hundredths (R148). -/
def strokeSlack (m : Rounding) : Int := match m with | .nearest => 50 | .truncate => 100

theorem strokeDiv_close (m : Rounding) (n : Int) : |100 * strokeDiv m n - n| ≤ strokeSlack m := by
  rw [abs_le]
  cases m <;> dsimp only [strokeDiv, strokeSlack] <;> omega

/-- Of a part of a width the forward conversion makes a stroke of that width (R148). -/
theorem strokeDiv_mem (m : Rounding) {n w : Int} (hfrom : 0 ≤ n) (hto : n ≤ 100 * w) :
    0 ≤ strokeDiv m n ∧ strokeDiv m n ≤ w := by
  cases m <;> dsimp only [strokeDiv] <;> omega

/-! ### The segments of a table -/

theorem strokeAt_strictMono {t : List Int} (hlength : t.length = 17) (hpairwise : t.Pairwise (· < ·)) {i j : Nat}
    (hij : i < j) (hj : j ≤ 16) : strokeAt t i < strokeAt t j := by
  rw [strokeAt_eq_getElem (by omega), strokeAt_eq_getElem (by omega)]
  exact List.pairwise_iff_getElem.1 hpairwise i j (by omega) (by omega) hij

section
variable {t : List Int} (h : StrokeLaw t)

include h

theorem strokeLaw_strictMono {i j : Nat} (hij : i < j) (hj : j ≤ 16) : strokeAt t i < strokeAt t j := by
  obtain ⟨hlength, -, hpairwise, -⟩ := h
  exact strokeAt_strictMono hlength hpairwise hij hj

theorem strokeLaw_mono {i j : Nat} (hij : i ≤ j) (hj : j ≤ 16) : strokeAt t i ≤ strokeAt t j := by
  rcases hij.eq_or_lt with rfl | hlt
  · exact le_refl _
  · exact (strokeLaw_strictMono h hlt hj).le

end

/-- The stroke x lies in segment i, both ends included. -/
def InSegment (t : List Int) (i : Nat) (x : Int) : Prop := i ≤ 15 ∧ strokeAt t i ≤ x ∧ x ≤ strokeAt t (i + 1)

/-- The angle of a stroke read in segment i (R149). -/
def segmentAngle (t : List Int) (i : Nat) (x : Int) : Int :=
  100 * (i : Int) - 800 + nearestDiv (100 * (x - strokeAt t i)) (strokeAt t (i + 1) - strokeAt t i)

section
variable {t : List Int} {i : Nat} (h : StrokeLaw t)

include h

theorem segmentAngle_from (hi : i ≤ 15) : segmentAngle t i (strokeAt t i) = 100 * (i : Int) - 800 := by
  have hrises := strokeLaw_rises h (Nat.lt_succ_of_le hi)
  have hstart := nearestDiv_mul (Int.sub_pos.2 hrises) 0
  rw [zero_mul] at hstart
  rw [segmentAngle, sub_self, mul_zero, hstart, add_zero]

theorem segmentAngle_to (hi : i ≤ 15) :
    segmentAngle t i (strokeAt t (i + 1)) = 100 * ((i + 1 : Nat) : Int) - 800 := by
  have hrises := strokeLaw_rises h (Nat.lt_succ_of_le hi)
  rw [segmentAngle, nearestDiv_mul (Int.sub_pos.2 hrises)]
  omega

/-- A later segment that holds the same stroke begins where the earlier one ends, and gives the same angle. -/
theorem segmentAngle_of_lt {j : Nat} {x : Int} (hij : i < j) (hx : InSegment t i x) (hy : InSegment t j x) :
    segmentAngle t i x = segmentAngle t j x := by
  obtain ⟨hi, -, hto⟩ := hx
  obtain ⟨hj, hfrom, -⟩ := hy
  have hnext : j = i + 1 := by
    by_contra hne
    have hapart := strokeLaw_strictMono h (show i + 1 < j by omega) (by omega)
    omega
  subst hnext
  obtain rfl : x = strokeAt t (i + 1) := le_antisymm hto hfrom
  rw [segmentAngle_to h hi, segmentAngle_from h hj]

theorem segmentAngle_unique {j : Nat} {x : Int} (hx : InSegment t i x) (hy : InSegment t j x) :
    segmentAngle t i x = segmentAngle t j x := by
  rcases lt_trichotomy i j with hlt | rfl | hlt
  · exact segmentAngle_of_lt h hlt hx hy
  · rfl
  · exact (segmentAngle_of_lt h hlt hy hx).symm

/-- The inverse conversion, in any segment that holds the stroke (R149). -/
theorem toAngle_inSegment {x : Int} (hx : InSegment t i x) : toAngle t x = segmentAngle t i x := by
  obtain ⟨hi, hfrom, hto⟩ := hx
  have hlow : strokeAt t 0 ≤ x := (strokeLaw_mono h (Nat.zero_le i) (by omega)).trans hfrom
  have hhigh : x ≤ strokeAt t 16 := hto.trans (strokeLaw_mono h (by omega) (le_refl 16))
  rw [toAngle, if_neg (not_lt.2 hlow), if_neg (not_lt.2 hhigh)]
  exact segmentAngle_unique h (strokeSegment_holds hlow hhigh) ⟨hi, hfrom, hto⟩

/-- A stroke of the table is converted to its own angle (R147, R149). -/
theorem toAngle_strokeAt {j : Nat} (hj : j ≤ 16) : toAngle t (strokeAt t j) = -800 + 100 * (j : Int) := by
  cases j with
  | zero =>
    have hrises := strokeLaw_rises h (show 0 < 16 by decide)
    rw [toAngle_inSegment h ⟨Nat.zero_le 15, le_refl _, hrises.le⟩, segmentAngle_from h (Nat.zero_le 15)]
    omega
  | succ i =>
    have hrises := strokeLaw_rises h hj
    rw [toAngle_inSegment h ⟨Nat.le_of_succ_le_succ hj, hrises.le, le_refl _⟩,
      segmentAngle_to h (Nat.le_of_succ_le_succ hj)]
    omega

/-! ### A command there and back (R148, R149) -/

variable {m : Rounding} {theta : Int}

/-- The stroke of a command lies in the segment of the command (R148). -/
theorem toStroke_inSegment (hlow : -800 ≤ theta) (hhigh : theta ≤ 800) :
    InSegment t (segmentOf theta) (toStroke t m theta) := by
  have hi : segmentOf theta ≤ 15 := min_le_left _ _
  have hpart : 0 ≤ theta - (-800 + 100 * (segmentOf theta : Int))
      ∧ theta - (-800 + 100 * (segmentOf theta : Int)) ≤ 100 := by
    unfold segmentOf
    omega
  have hwidth : 0 ≤ strokeAt t (segmentOf theta + 1) - strokeAt t (segmentOf theta) :=
    Int.sub_nonneg.2 (strokeLaw_rises h (Nat.lt_succ_of_le hi)).le
  have hmem := strokeDiv_mem m (Int.mul_nonneg hwidth hpart.1)
    ((Int.mul_le_mul_of_nonneg_left hpart.2 hwidth).trans_eq (mul_comm _ _))
  unfold InSegment toStroke
  dsimp only
  omega

/-- Both divisions together miss by at most the slack of the first and the width of the segment (R148, R149). -/
theorem toAngle_toStroke_close (hlow : -800 ≤ theta) (hhigh : theta ≤ 800) :
    (strokeAt t (segmentOf theta + 1) - strokeAt t (segmentOf theta)) * |toAngle t (toStroke t m theta) - theta|
      ≤ strokeSlack m + (strokeAt t (segmentOf theta + 1) - strokeAt t (segmentOf theta)) := by
  have hin := toStroke_inSegment (m := m) h hlow hhigh
  have hwidth := Int.sub_pos.2 (strokeLaw_rises h (Nat.lt_succ_of_le hin.1))
  rw [toAngle_inSegment h hin, segmentAngle]
  generalize hw : strokeAt t (segmentOf theta + 1) - strokeAt t (segmentOf theta) = w at hwidth ⊢
  generalize hf : theta - (-800 + 100 * (segmentOf theta : Int)) = f
  have hstroke : toStroke t m theta - strokeAt t (segmentOf theta) = strokeDiv m (w * f) := by
    rw [← hw, ← hf]
    exact add_sub_cancel_left _ _
  rw [hstroke]
  generalize hn : nearestDiv (100 * strokeDiv m (w * f)) w = n
  have hforward := strokeDiv_close m (w * f)
  have hback := nearestDiv_close (100 * strokeDiv m (w * f)) hwidth
  have hmiss : 100 * (segmentOf theta : Int) - 800 + n - theta = n - f := by omega
  rw [hn, abs_le] at hback
  rw [abs_le] at hforward
  calc w * |100 * (segmentOf theta : Int) - 800 + n - theta|
      = |w * n - w * f| := by rw [hmiss, ← mul_sub, abs_mul, abs_of_pos hwidth]
    _ ≤ strokeSlack m + w := abs_le.2 (by omega)

end

/-- Settles O58: the segment of the command holds its stroke, and the errors of the two divisions add up. -/
theorem strokesConvertBack : Obligations.StrokesConvertBack := by
  intro t m theta h hlow hhigh i w x
  obtain ⟨-, hfrom, hto⟩ := toStroke_inSegment (m := m) h hlow hhigh
  refine ⟨hfrom, hto, ?_, fun j hj => toAngle_strokeAt h hj, fun y => toAngle_commandAngle h y⟩
  rw [Int.natCast_natAbs]
  exact toAngle_toStroke_close h hlow hhigh

end Sys2Proof.Machine

/-! SUPPORT. STROKE LOAD and STROKE READ (R150, R151): the checks of R150 in their order, each by what it asks of the
table. -/

namespace Sys2Proof.Machine

open Sys2Proof.Safety

/-! ### What the checks say (R150) -/

theorem roundingOfCode_of_gt {n : Nat} (h : 1 < n) : roundingOfCode n = none := by
  unfold roundingOfCode
  split
  · omega
  · omega
  · rfl

theorem roundingOfCode_of_le {n : Nat} (h : n ≤ 1) :
    roundingOfCode n = some (if n = 0 then .nearest else .truncate) := by
  rcases Nat.le_one_iff_eq_zero_or_eq_one.1 h with rfl | rfl <;> rfl

theorem strokesInRange_iff (t : List Int) : strokesInRange t = true ↔ ∀ x ∈ t, -9999 ≤ x ∧ x ≤ 9999 := by
  simp [strokesInRange]

theorem firstFall_eq_some {t : List Int} {i : Nat} (hi : i ≤ 15) (hfalls : strokeAt t (i + 1) ≤ strokeAt t i)
    (hrises : ∀ j < i, strokeAt t j < strokeAt t (j + 1)) : firstFall t = some i := by
  refine List.find?_range_eq_some.2 ⟨decide_eq_true hfalls, List.mem_range.2 (Nat.lt_succ_of_le hi), fun j hj => ?_⟩
  simpa using hrises j hj

theorem firstFall_eq_none {t : List Int} (hlength : t.length = 17) (hpairwise : t.Pairwise (· < ·)) :
    firstFall t = none := by
  refine List.find?_eq_none.2 fun i hi => ?_
  rw [decide_eq_true_eq, not_le]
  exact strokeAt_strictMono hlength hpairwise (Nat.lt_succ_self i) (List.mem_range.1 hi)

/-! ### STROKE LOAD (R150) -/

section
variable {r : Request} {s : State}

theorem takeStrokeLoad_masked (h : s.line.masked.load = true) : takeStrokeLoad r s = (s, answer .masked) := by
  simp only [takeStrokeLoad, if_pos h]

variable (hmask : s.line.masked.load = false)

include hmask

theorem takeStrokeLoad_badArg
    (h : r.args.length < 35 ∨ 1 < arg8 r.args 34 ∨ strokesInRange (argStrokes r.args) = false) :
    takeStrokeLoad r s = (s, answer .badArg) := by
  simp only [takeStrokeLoad, hmask, Bool.false_eq_true, if_false]
  split
  · rfl
  · next hlen =>
    rcases h.resolve_left hlen with hcode | hrange
    · rw [roundingOfCode_of_gt hcode]
    · cases roundingOfCode (arg8 r.args 34) with
      | none => rfl
      | some m => simp only [hrange, Bool.not_false, if_true]

variable {m : Rounding} (hlen : ¬ r.args.length < 35) (hm : roundingOfCode (arg8 r.args 34) = some m)
  (hrange : strokesInRange (argStrokes r.args) = true)

include hlen hm hrange

theorem takeStrokeLoad_falls {i : Nat} (h : firstFall (argStrokes r.args) = some i) :
    takeStrokeLoad r s = (s, answer .badArg (.index i)) := by
  simp only [takeStrokeLoad, hmask, Bool.false_eq_true, if_false, if_neg hlen, hm, hrange, Bool.not_true, h]

variable (hrises : firstFall (argStrokes r.args) = none)

include hrises

theorem takeStrokeLoad_offCentre (h : 50 < (strokeAt (argStrokes r.args) 8).natAbs) :
    takeStrokeLoad r s = (s, answer .badArg (.index 8)) := by
  simp only [takeStrokeLoad, hmask, Bool.false_eq_true, if_false, if_neg hlen, hm, hrange, Bool.not_true, hrises,
    if_pos h]

theorem takeStrokeLoad_loaded (h : ¬ 50 < (strokeAt (argStrokes r.args) 8).natAbs) :
    takeStrokeLoad r s =
      ({ s with strokes := argStrokes r.args, drive := { s.drive with rounding := m, tableLoaded := true } },
        answer .done) := by
  simp only [takeStrokeLoad, hmask, Bool.false_eq_true, if_false, if_neg hlen, hm, hrange, Bool.not_true, hrises,
    if_neg h]

end

/-- Settles O40: the checks in their order, then the load. -/
theorem strokeRequests : Obligations.StrokeRequests := by
  intro port h args s t table inRange run refused
  let r : Request := { port := port, h := h, args := args, level := effectiveLevel s port h }
  have haddress : t.line.address = s.line.address := requestCounted_line_address port s
  have hmasked : t.line.masked = s.line.masked := requestCounted_line_masked port s
  have hlength : (argStrokes args).length = 17 := by simp [argStrokes]
  refine ⟨fun ha => ?_, fun ha => exec_concludes (row := strokeReadRow) rfl ha (t := t) rfl haddress⟩
  have hacts {t' : State} {result : ResultCode} {payload : ReplyPayload}
      (ht : takeStrokeLoad r t = (t', answer result payload)) (hl : t'.line.address = s.line.address) :
      run = .next (concludeRequest port h 14#8 args result payload t') :=
    exec_concludes (row := strokeLoadRow) rfl ha ht hl
  refine ⟨fun hm => hacts (takeStrokeLoad_masked (hmasked ▸ hm)) haddress, fun hm => ?_⟩
  have hmask : t.line.masked.load = false := hmasked ▸ hm
  have hout : ¬ inRange → strokesInRange (argStrokes args) = false := fun hout =>
    Bool.eq_false_iff.2 (mt (strokesInRange_iff _).1 hout)
  refine ⟨fun hbad => hacts (takeStrokeLoad_badArg (r := r) hmask (hbad.imp_right (Or.imp_right hout))) haddress,
    fun hlen hcode hin => ?_⟩
  have hlen' : ¬ args.length < 35 := Nat.not_lt.2 hlen
  have hrounding := roundingOfCode_of_le hcode
  have hrange : strokesInRange (argStrokes args) = true := (strokesInRange_iff _).2 hin
  refine ⟨fun i hi hfalls hrises => ?_, fun hrises hcentre => ?_, fun hlaw => ?_⟩
  · exact hacts (takeStrokeLoad_falls (r := r) hmask hlen' hrounding hrange (firstFall_eq_some hi hfalls hrises))
      haddress
  · exact hacts (takeStrokeLoad_offCentre (r := r) hmask hlen' hrounding hrange (firstFall_eq_none hlength hrises)
      hcentre) haddress
  · obtain ⟨-, -, hrises, hcentre⟩ := hlaw
    exact hacts (takeStrokeLoad_loaded (r := r) hmask hlen' hrounding hrange (firstFall_eq_none hlength hrises)
      (Nat.not_lt.2 hcentre)) haddress

end Sys2Proof.Machine

/-! SUPPORT. DRIVE-ACK (R143, R144): the DRIVE it answers, what the mode controller notes of it (R126), and what it judges
of the acknowledgement of a MOVE, the end of centring (R127) or the settle of a HOLD (R129). -/

namespace Sys2Proof.Machine

open Sys2Proof.Safety

/-! ### The DRIVE that an acknowledgement answers (R143) -/

theorem answeredDrive_eq_some {d : DrivePort} {x : Drive} (hout : d.outstanding = some x) (hopen : x.answered = false) :
    answeredDrive d x.seq = some x := by
  simp only [answeredDrive, hout, hopen, and_self, if_true]

theorem answeredDrive_eq_none {d : DrivePort} {seq : Byte}
    (h : ∀ x, d.outstanding = some x → x.answered = false → x.seq ≠ seq) : answeredDrive d seq = none := by
  unfold answeredDrive
  split
  · next x hout => rw [if_neg fun hboth => h x hout hboth.1 hboth.2]
  · rfl

/-! ### What the mode controller notes (R126) -/

theorem isQuery_iff (kind : DriveKind) : isQuery kind = true ↔ kind = .query := by
  cases kind <;> simp [isQuery]

theorem noteAck_eq (kind : DriveKind) (angle : Int) (status : AckStatus) (m : ModeController) :
    noteAck kind angle status m =
      { m with
        ackSeen := true, ackStatus := some status
        prevCommand := if kind = .query ∧ m.prevCommand = none then some angle else m.prevCommand } := by
  simp only [noteAck, Bool.and_eq_true, isQuery_iff, Option.isNone_iff_eq_none]

/-- An acknowledgement of a MOVE leaves the previous command alone (R126). -/
theorem noteAck_prevCommand_of_move {kind : DriveKind} (h : kind ≠ .query) (angle : Int) (status : AckStatus)
    (m : ModeController) : (noteAck kind angle status m).prevCommand = m.prevCommand := by
  simp only [noteAck_eq, h, false_and, if_false]

section
variable {kind : DriveKind} {angle : Int} {status : AckStatus} {s : State} {m : ModeController}
  (hm : noteAck kind angle status s.mode = m)

include hm

theorem takeAck_fault (h : status = .fault) :
    takeAck kind angle status s = takeFault .driveFault { s with mode := m } := by
  rw [takeAck, if_pos h, hm]

variable (hstatus : status ≠ .fault)

include hstatus

theorem takeAck_query (h : kind = .query) : takeAck kind angle status s = { s with mode := m } := by
  rw [takeAck, if_neg hstatus, if_pos ((isQuery_iff kind).2 h), hm]

theorem takeAck_move (h : kind ≠ .query) :
    takeAck kind angle status s = judgeSettle angle (judgeCentring angle { s with mode := m }) := by
  rw [takeAck, if_neg hstatus, if_neg (mt (isQuery_iff kind).1 h), hm]

end

/-! ### The end of centring and the settle (R127, R129) -/

section
variable {angle : Int} {s : State}

theorem judgeCentring_kept
    (h : s.mode.mode = .centring → s.mode.prevCommand ≠ some 0 ∨ s.params.holdTol < angle.natAbs) :
    judgeCentring angle s = s := by
  refine if_neg fun ⟨hmode, hzero, hnear⟩ => ?_
  rcases h hmode with hmoved | hfar
  · exact hmoved hzero
  · exact absurd hnear (Nat.not_le.2 hfar)

theorem judgeCentring_ended (hmode : s.mode.mode = .centring) (hzero : s.mode.prevCommand = some 0)
    (hnear : angle.natAbs ≤ s.params.holdTol) :
    judgeCentring angle s = modeChanged .centred { s.mode with mode := chosenToMode s.mode.target } s := by
  have hleft : chosenToMode s.mode.target ≠ s.mode.mode := hmode ▸ (chosenToMode_ne _).1
  rw [judgeCentring, if_pos ⟨hmode, hzero, hnear⟩, changeMode_changed hleft]

theorem settledOn_iff (m : ModeController) (tol : Nat) (angle : Int) :
    settledOn m tol angle = true ↔ ∃ c, m.prevCommand = some c ∧ (angle - c).natAbs ≤ tol := by
  cases h : m.prevCommand <;> simp [settledOn, h]

theorem judgeSettle_none (h : s.holdReply = none) : judgeSettle angle s = s := by
  simp only [judgeSettle, h, Option.isNone_none, if_true]

variable {p : PendingHold} (hp : s.holdReply = some p)

include hp

theorem judgeSettle_apart (h : ¬ ∃ c, s.mode.prevCommand = some c ∧ (angle - c).natAbs ≤ s.params.holdTol) :
    judgeSettle angle s = { s with mode := { s.mode with settle := 0 } } := by
  have happart := mt (settledOn_iff s.mode s.params.holdTol angle).1 h
  simp only [judgeSettle, hp, Option.isNone_some, Bool.false_eq_true, if_false, if_neg happart]

variable (hsettled : ∃ c, s.mode.prevCommand = some c ∧ (angle - c).natAbs ≤ s.params.holdTol)

include hsettled

theorem judgeSettle_first (h : s.mode.settle = 0) :
    judgeSettle angle s = { s with mode := { s.mode with settle := 1 } } := by
  have hon := (settledOn_iff s.mode s.params.holdTol angle).2 hsettled
  simp only [judgeSettle, hp, Option.isNone_some, Bool.false_eq_true, if_false, if_pos hon, h, Nat.reduceAdd,
    Nat.one_lt_ofNat, if_true]

/-- The second acknowledgement in a row that settles answers the pending HOLD (R129). -/
theorem judgeSettle_second (h : s.mode.settle = 1) :
    judgeSettle angle s =
      sendReply p.port p.source p.tag 17#8 .done (.hold false .settled)
        { s with mode := { s.mode with settle := 0 }, holdReply := none } := by
  have hon := (settledOn_iff s.mode s.params.holdTol angle).2 hsettled
  simp only [judgeSettle, hp, Option.isNone_some, Bool.false_eq_true, if_false, if_pos hon, h, Nat.reduceAdd,
    lt_self_iff_false, answerHold]

end

/-- Settles O55, by the DRIVE answered, the status, and for a MOVE by what the mode controller judges. -/
theorem driveAckActs : Obligations.DriveAckActs := by
  intro seq stroke status s run actual angle st hheld
  have hrun : run = .next (receiveAck seq stroke status s) := unlessHeld_awake hheld _
  refine ⟨fun hlate => ?_, fun x hout hopen hseq => ?_⟩
  · rw [hrun, receiveAck, answeredDrive_eq_none hlate]
    rfl
  subst hseq
  intro prev m t out settled
  have hm : noteAck x.kind angle st s.mode = m := noteAck_eq ..
  have htaken {u : State} (hu : takeAck x.kind angle st { t with mode := s.mode } = u) : run = out u := by
    rw [hrun, receiveAck, answeredDrive_eq_some hout hopen, ← hu]
    rfl
  have hjudged {u v : State} (hst : st ≠ .fault) (hmove : x.kind ≠ .query) (hu : judgeCentring angle t = u)
      (hv : judgeSettle angle u = v) : run = out v := by
    subst hu
    exact htaken ((takeAck_move (s := { t with mode := s.mode }) hm hst hmove).trans hv)
  have hprev (hmove : x.kind ≠ .query) : m.prevCommand = s.mode.prevCommand :=
    hm ▸ noteAck_prevCommand_of_move hmove angle st s.mode
  refine ⟨fun hfault => htaken (takeAck_fault hm hfault), fun hst hquery => htaken (takeAck_query hm hst hquery),
    fun hst hmove hmode hfree => ?_, fun hst hmove hmode hfree => ⟨fun hzero hnear => ?_, fun hkept => ?_⟩,
    fun p hst hmove hmode hp => ?_⟩
  · exact hjudged hst hmove (judgeCentring_kept fun hcentring => absurd hcentring hmode) (judgeSettle_none hfree)
  · exact hjudged hst hmove (judgeCentring_ended hmode ((hprev hmove).trans hzero) hnear)
      (judgeSettle_none ((sendReport_holdReply ..).trans hfree))
  · exact hjudged hst hmove (judgeCentring_kept fun _ => (hprev hmove).symm ▸ hkept) (judgeSettle_none hfree)
  · have hsettles {v : State} (hv : judgeSettle angle t = v) : run = out v :=
      hjudged hst hmove (judgeCentring_kept fun hcentring => absurd hcentring hmode) hv
    have hon : (∃ c, m.prevCommand = some c ∧ (angle - c).natAbs ≤ s.params.holdTol) ↔ settled := by
      rw [hprev hmove]
    exact ⟨fun hyes hcount => hsettles (judgeSettle_first (s := t) hp (hon.2 hyes) hcount),
      fun hyes hcount => hsettles (judgeSettle_second (s := t) hp (hon.2 hyes) hcount),
      fun hno => hsettles (judgeSettle_apart (s := t) hp (mt hon.1 hno))⟩

end Sys2Proof.Machine

/-! SUPPORT. What a command other than DEVICE_RESET leaves standing of the line and of the waiting commands: the
upstream port once known, the node address, the masks, the law of the queues (R153, R157 to R159, R166). -/

namespace Sys2Proof.Machine

open Sys2Proof.Safety

/-! ### The line stands -/

/-- From s to t the part forgets nothing of its line: an upstream port known stays known, the node address stands, no
feature is unmasked, and the law of the queues is kept. The waiting commands are left alone. -/
structure LineStands (s t : State) : Prop where
  upstream : s.line.upstream ≠ none → t.line.upstream ≠ none
  address : t.line.address = s.line.address
  masked : ∃ named, t.line.masked = joinFeatures s.line.masked named
  law : LineLaw s → LineLaw t
  pending : t.pending = s.pending

theorem joinFeatures_none (x : Features) : joinFeatures x {} = x := by simp [joinFeatures]

theorem joinFeatures_assoc (x y z : Features) :
    joinFeatures (joinFeatures x y) z = joinFeatures x (joinFeatures y z) := by
  simp [joinFeatures, Bool.or_assoc]

theorem LineStands.trans {s t u : State} (h1 : LineStands s t) (h2 : LineStands t u) : LineStands s u := by
  obtain ⟨x, hx⟩ := h1.masked
  obtain ⟨y, hy⟩ := h2.masked
  exact ⟨fun h => h2.upstream (h1.upstream h), h2.address.trans h1.address,
    ⟨joinFeatures x y, by rw [hy, hx, joinFeatures_assoc]⟩, fun h => h2.law (h1.law h), h2.pending.trans h1.pending⟩

/-- What stands from t on stands from s on. -/
theorem LineStands.since {s t u : State} (h2 : LineStands t u) (h1 : LineStands s t) : LineStands s u := h1.trans h2

/-- A change of the line that keeps its known port, its address and its masks, and the law of its queues. -/
theorem LineStands.of_kept {s t : State} (hu : t.line.upstream = s.line.upstream)
    (ha : t.line.address = s.line.address) (hm : t.line.masked = s.line.masked) (hl : LineLaw s → LineLaw t)
    (hp : t.pending = s.pending) : LineStands s t :=
  ⟨fun h => hu ▸ h, ha, ⟨{}, by rw [hm, joinFeatures_none]⟩, hl, hp⟩

theorem FramesPlaced.stands {n : Nat} {s t : State} (h : FramesPlaced n s t) (hp : t.pending = s.pending) :
    LineStands s t := .of_kept h.upstream h.address h.masked h.law hp

/-- An action on the other items. -/
theorem LineStands.of_line {s t : State} (hl : t.line = s.line) (hp : t.pending = s.pending) : LineStands s t :=
  (FramesPlaced.ofEq hl).stands hp

theorem LineStands.refl (s : State) : LineStands s s := .of_line rfl rfl

/-- An action on one port that keeps its law. -/
theorem lineStands_onPort (p : Port) {f : PortState → PortState} (hf : ∀ x, PortLaw x → PortLaw (f x)) (s : State) :
    LineStands s (onPort p f s) :=
  .of_kept (by simp) (by simp) (by simp) (lineLaw_onPort (hf _)) rfl

theorem lineStands_forward (p : Port) (h : Header) (b : Body) (s : State) : LineStands s (forward p h b s) :=
  lineStands_onPort _ (fun _ => portLaw_joinForward _) s

theorem lineStands_countReceived (p : Port) (s : State) : LineStands s (countReceived p s) := by
  refine lineStands_onPort p (fun _ h => ?_) s
  exact h

theorem lineStands_sendReply (p : Port) (source : Byte) (tag : Word16) (code : Byte) (result : ResultCode)
    (payload : ReplyPayload) (s : State) : LineStands s (sendReply p source tag code result payload s) :=
  (framesPlaced_sendReply ..).stands rfl

/-! ### The blocks -/

theorem lineStands_sendReport (r : Report) (s : State) : LineStands s (sendReport r s) :=
  (framesPlaced_sendReport r s).stands (by simp)

theorem lineStands_answerHold (o : SettleOutcome) (s : State) : LineStands s (answerHold o s) :=
  (framesPlaced_answerHold o s).stands (by rw [answerHold_eq])

theorem lineStands_changeMode (reason : ModeReason) (m : ModeController) (s : State) :
    LineStands s (changeMode reason m s) :=
  (framesPlaced_changeMode reason m s).stands (by rw [changeMode_eq])

theorem lineStands_takeFault (cause : FaultCause) (s : State) : LineStands s (takeFault cause s) :=
  (framesPlaced_takeFault cause s).stands (by rw [takeFault_eq])

theorem lineStands_watchdogExpires (s : State) : LineStands s (watchdogExpires s) :=
  (framesPlaced_watchdogExpires s).stands (by rw [watchdogExpires_eq])

theorem lineStands_watchdogExpiry (s : State) : LineStands s (watchdogExpiry s) := by
  unfold watchdogExpiry
  split
  · exact .refl s
  · exact (lineStands_watchdogExpires _).since (.of_line rfl rfl)

/-- An ODOMETRY frame makes its port the upstream port (R3). -/
theorem lineStands_takeOdometry (p : Port) (hop : Byte) (x : Word24) (v : Word16) (d : Byte) (s : State) :
    LineStands s (takeOdometry p hop x v d s) := by
  have hport {t : State} (hl : t.line = { s.line with upstream := some p }) (hp : t.pending = s.pending) :
      LineStands s t :=
    ⟨fun _ => by rw [hl]; nofun, by rw [hl], ⟨{}, by rw [hl, joinFeatures_none]⟩,
      lineLaw_congr (by rw [hl]) (by rw [hl]), hp⟩
  unfold takeOdometry
  dsimp only
  split
  · exact (lineStands_takeFault ..).since (hport rfl rfl)
  · exact hport rfl rfl

theorem lineStands_takeFix (p : Port) (b x : Word24) (a v : Byte) (s : State) :
    LineStands s (takeFix p b x a v s).1 := by
  unfold takeFix leadFix followFix
  (repeat' split) <;> exact .of_line rfl rfl

theorem lineStands_takeSample (p : Port) (e : PreviewEntry) (s : State) : LineStands s (takeSample p e s) := by
  unfold takeSample
  split <;> exact .of_line rfl rfl

/-- A lead sends what it originates (R81). -/
theorem lineStands_senseFrame (a : Word16) (f : Byte) (s : State) : LineStands s (senseFrame a f s) := by
  have horiginate (pa : PositionAnswer) (x : State) : LineStands x (originate pa x) := by
    have hqueue : LineStands x { x with
        queue := originateInto (dirFactor x.pos.dir) (originatedEntry x.queue pa.b pa.o) x.queue } := .of_line rfl rfl
    unfold originate
    split
    · exact hqueue.trans (lineStands_onPort _ (fun _ => portLaw_joinOwn _) _)
    · exact hqueue
  have hsense : LineStands s { s with queue := storeSense a f s.queue } := .of_line rfl rfl
  unfold senseFrame
  dsimp only
  split
  · split
    · exact hsense.trans (horiginate ..)
    · exact hsense
  · exact hsense

theorem lineStands_verifyCompletes (s : State) : LineStands s (verifyCompletes s) := by
  unfold verifyCompletes
  split
  · exact .refl s
  · exact (lineStands_sendReport ..).since (.of_line rfl rfl)

theorem lineStands_takeAck (kind : DriveKind) (angle : Int) (status : AckStatus) (s : State) :
    LineStands s (takeAck kind angle status s) := by
  have hcentring (x : State) : LineStands x (judgeCentring angle x) := by
    unfold judgeCentring
    split
    · exact lineStands_changeMode ..
    · exact .refl x
  have hsettle (x : State) : LineStands x (judgeSettle angle x) := by
    unfold judgeSettle
    split_ifs
    · exact .refl x
    · exact .of_line rfl rfl
    · exact (lineStands_answerHold ..).since (.of_line rfl rfl)
    · exact .of_line rfl rfl
  have hnoted : LineStands s { s with mode := noteAck kind angle status s.mode } := .of_line rfl rfl
  unfold takeAck
  split_ifs
  · exact hnoted.trans (lineStands_takeFault ..)
  · exact hnoted
  · exact (hnoted.trans (hcentring _)).trans (hsettle _)

theorem lineStands_receiveAck (q : Byte) (x : Word16) (st : Byte) (s : State) :
    LineStands s (receiveAck q x st s) := by
  have hanswered (seq : Byte) (stroke angle : Int) (status : AckStatus) (u : State) :
      LineStands u (auditAnswer seq stroke angle status u) :=
    (framesPlaced_auditAnswer ..).stands (by rw [auditAnswer_eq])
  unfold receiveAck
  split
  · exact (hanswered ..).since ((lineStands_takeAck ..).since (.of_line rfl rfl))
  · exact .of_line rfl rfl

theorem lineStands_runStep (s : State) : LineStands s (runStep s) := by
  refine (framesPlaced_runStep s).stands ?_
  rw [runStep_eq, auditHandover_eq]
  show (judged (formedStep s)).pending = _
  rw [judged_eq, formedStep_eq]
  rfl

/-! ### The owners of the requests -/

theorem lineStands_takeParamSet (r : Request) (s : State) : LineStands s (takeParamSet r s).1 := by
  have hset (x : Param) (v : Int) : LineStands s (setParam x v s) := by
    cases x
    case floorA | floorB => exact .of_kept rfl rfl rfl (lineLaw_congr rfl rfl) rfl
    all_goals exact .of_line rfl rfl
  unfold takeParamSet
  split
  · exact .refl s
  · split
    · exact .refl s
    · next x _ =>
      split
      · exact .of_kept rfl rfl rfl (lineLaw_congr rfl rfl) rfl
      · dsimp only
        rcases applyParam_cases x (appliedValue x s.params (argInt16 r.args 1)) s with h | ⟨-, -, -, h⟩ <;> rw [h]
        · exact hset ..
        · exact (hset ..).trans (lineStands_watchdogExpires _)

theorem lineStands_takeModeSet (r : Request) (s : State) : LineStands s (takeModeSet r s).1 := by
  unfold takeModeSet
  split
  · exact .refl s
  · split
    · exact .refl s
    · split_ifs
      · exact .refl s
      · exact .refl s
      · exact .refl s
      · exact lineStands_changeMode ..

theorem lineStands_takeBankClose (r : Request) (s : State) : LineStands s (takeBankClose r s).1 := by
  unfold takeBankClose
  split
  · exact .refl s
  · split
    · exact .refl s
    · split
      · exact .refl s
      · split <;> exact .of_line rfl rfl
      · exact .of_line rfl rfl
      · exact (lineStands_sendReport ..).since (.of_line rfl rfl)

theorem lineStands_takeHold (r : Request) (s : State) : LineStands s (takeHold r s).1 := by
  unfold takeHold
  split_ifs
  · exact .refl s
  · exact .of_line rfl rfl
  · exact (lineStands_changeMode ..).since (.of_line rfl rfl)

theorem lineStands_takeRelease (r : Request) (s : State) : LineStands s (takeRelease r s).1 := by
  unfold takeRelease
  split
  · refine (lineStands_answerHold ..).since ?_
    split
    · exact lineStands_changeMode ..
    · exact .of_line rfl rfl
  · exact .refl s

theorem lineStands_takeResume (r : Request) (s : State) : LineStands s (takeResume r s).1 := by
  unfold takeResume
  split_ifs
  · exact .refl s
  · exact .refl s
  · exact lineStands_changeMode ..
  · exact lineStands_changeMode ..

theorem lineStands_maskEffects (before after : Features) (s : State) :
    LineStands s (maskEffects before after s) := by
  have hpred : LineStands s (if after.predictive && !before.predictive then maskPredictive s else s) := by
    split
    · exact lineStands_changeMode ..
    · exact .refl s
  have haudit (x : State) : LineStands x (if after.audit && !before.audit then maskAudit x else x) := by
    split <;> exact .of_line rfl rfl
  have hload (x : State) : LineStands x (if after.load && !before.load then maskLoad x else x) := by
    split <;> exact .of_line rfl rfl
  exact (hpred.trans (haudit _)).trans (hload _)

/-- FEATURE MASK joins features to the masks and takes none away (R166). -/
theorem lineStands_takeFeatureMask (r : Request) (s : State) : LineStands s (takeFeatureMask r s).1 := by
  unfold takeFeatureMask
  split
  · exact .refl s
  · exact (lineStands_maskEffects ..).since ⟨id, rfl, ⟨_, rfl⟩, lineLaw_congr rfl rfl, rfl⟩

theorem lineStands_takeRestart (r : Request) (s : State) : LineStands s (takeRestart r s).1 := by
  have hmode (x : State) : LineStands x (restartMode x) :=
    (lineStands_answerHold ..).trans (lineStands_changeMode ..)
  have hstore : LineStands s
      (restartStore { s with queue := flushQueue s.queue, demand := restartedDemand s.demand }) := .of_line rfl rfl
  exact (hstore.trans (hmode _)).trans (.of_line rfl rfl)

/-- The requests whose owners can touch the line: those that can send a report or a HOLD reply, that set a floor or that
mask a feature. -/
def lineRows : List RequestRow :=
  [paramSetRow, modeSetRow, bankCloseRow, holdRow, releaseRow, resumeRow, featureMaskRow, restartRow]

/-- An owner's action on its request leaves the line alone, and the waiting commands. -/
def OwnerSparesLine (take : Request → State → State × Answer) : Prop :=
  ∀ r s, (take r s).1.line = s.line ∧ (take r s).1.pending = s.pending

/-- Every other request is answered from the state, or changes the walker, the curve store, the stroke table or the
audit. -/
theorem ownerSparesLine_catalogue : ∀ row ∈ catalogue, row ∈ lineRows ∨ OwnerSparesLine row.take := by
  have hline {row : RequestRow} (h : row ∈ lineRows) : row ∈ lineRows ∨ OwnerSparesLine row.take := .inl h
  simp only [catalogue, List.forall_mem_cons]
  refine ⟨.inr fun r s => ?statusRead, hline (by simp [lineRows]), .inr fun r s => ?paramRead,
    hline (by simp [lineRows]), .inr fun r s => ?descWrite, .inr fun r s => ?descClear, .inr fun r s => ?descRead,
    .inr fun r s => ?loadHead, .inr fun r s => ?loadTail, .inr fun r s => ?bankOpen, hline (by simp [lineRows]),
    .inr fun r s => ?bankErase, .inr fun r s => ?recordRead, .inr fun r s => ?strokeLoad, .inr fun r s => ⟨rfl, rfl⟩,
    .inr fun r s => ?sectionSelect, hline (by simp [lineRows]), hline (by simp [lineRows]), hline (by simp [lineRows]),
    .inr fun r s => ?auditArm, hline (by simp [lineRows]), hline (by simp [lineRows]), nofun⟩
  case statusRead | paramRead | descRead | recordRead =>
    simp only [statusReadRow, paramReadRow, descReadRow, recordReadRow, takeStatusRead, takeParamRead, takeDescRead,
      takeRecordRead]
    (repeat' split) <;> exact ⟨rfl, rfl⟩
  case descWrite | descClear | sectionSelect =>
    simp only [descWriteRow, descClearRow, sectionSelectRow, takeDescWrite, takeDescClear, takeSectionSelect]
    (repeat' split) <;> exact ⟨rfl, rfl⟩
  case loadHead | loadTail | bankOpen | bankErase =>
    simp only [loadHeadRow, loadTailRow, bankOpenRow, bankEraseRow, takeLoadHead, takeLoadTail, takeBankOpen,
      takeBankErase]
    (repeat' split) <;> exact ⟨rfl, rfl⟩
  case strokeLoad | auditArm =>
    simp only [strokeLoadRow, auditArmRow, takeStrokeLoad, takeAuditArm]
    (repeat' split) <;> exact ⟨rfl, rfl⟩

theorem lineStands_take {row : RequestRow} (hm : row ∈ catalogue) (r : Request) (s : State) :
    LineStands s (row.take r s).1 := by
  have hrows : ∀ row ∈ lineRows, LineStands s (row.take r s).1 := by
    simp only [lineRows, List.forall_mem_cons]
    exact ⟨lineStands_takeParamSet r s, lineStands_takeModeSet r s, lineStands_takeBankClose r s,
      lineStands_takeHold r s, lineStands_takeRelease r s, lineStands_takeResume r s, lineStands_takeFeatureMask r s,
      lineStands_takeRestart r s, nofun⟩
  rcases ownerSparesLine_catalogue row hm with hrow | hspares
  · exact hrows row hrow
  · exact .of_line (hspares r s).1 (hspares r s).2

/-! ### Commands -/

theorem lineStands_takeRequest {row : RequestRow} (hm : row ∈ catalogue) (p : Port) (h : Header) (args : List Byte)
    (s : State) : LineStands s (takeRequest row p h args s) := by
  have hcounted : LineStands s { s with line := { s.line with requestsTaken := count16 s.line.requestsTaken } } :=
    .of_kept rfl rfl rfl (lineLaw_congr rfl rfl) rfl
  have htaken {r : Request} {t : State} {a : Answer}
      (ht : row.take r { s with line := { s.line with requestsTaken := count16 s.line.requestsTaken } } = (t, a)) :
      LineStands s t := by
    have hstands := hcounted.trans (lineStands_take hm r _)
    rwa [ht] at hstands
  unfold takeRequest
  dsimp only
  split
  · exact (lineStands_sendReply ..).since (.of_kept rfl rfl rfl (lineLaw_congr rfl rfl) rfl)
  · split
    · next heq => exact (htaken heq).trans (lineStands_sendReply ..)
    · next heq => exact htaken heq

theorem lineStands_takeUnknown (p : Port) (h : Header) (payload : List Byte) (s : State) :
    LineStands s (takeUnknown p h payload s) := by
  unfold takeUnknown
  dsimp only
  split <;> exact (lineStands_sendReply ..).since (.of_kept rfl rfl rfl (lineLaw_congr rfl rfl) rfl)

theorem lineStands_takePayload (p : Port) (h : Header) (payload : List Byte) (s : State) :
    LineStands s (takePayload p h payload s) := by
  unfold takePayload
  split
  · exact lineStands_takeUnknown ..
  · split
    · next row hf => exact lineStands_takeRequest (List.mem_of_find?_eq_some hf) ..
    · exact lineStands_takeUnknown ..

theorem lineStands_receiveRequest {taking : State → State} (ht : ∀ s, LineStands s (taking s)) (p : Port) (h : Header)
    (payload : List Byte) (s : State) : LineStands s (receiveRequest taking p h payload s) := by
  have hcounted := lineStands_countReceived p s
  have htaken : LineStands s (if takesRequest (countReceived p s) h.dest then taking (countReceived p s)
      else countReceived p s) := by
    split
    · exact hcounted.trans (ht _)
    · exact hcounted
  unfold receiveRequest
  dsimp only
  split
  · exact hcounted.trans (.of_kept rfl rfl rfl (lineLaw_congr rfl rfl) rfl)
  · split
    · exact htaken
    · exact htaken.trans (lineStands_forward ..)

/-- A frame taken by its block: counted before and forwarded after. -/
theorem LineStands.forwarded {t : State} {p : Port} {s : State} (ht : LineStands (countReceived p s) t)
    (h : Header) (b : Body) : LineStands s (forward p h b t) :=
  ((lineStands_countReceived p s).trans ht).trans (lineStands_forward ..)

/-- Every command but DEVICE_RESET lets the line stand. -/
theorem lineStands_exec {c : Instr} {s t : State} (hreset : ∀ e, c ≠ .deviceReset e) (he : exec c s = .next t) :
    LineStands s t := by
  have hblock {f : State → State} (hu : unlessHeld f s = .next t) (hf : LineStands s (f s)) : LineStands s t :=
    of_unlessHeld (P := LineStands s) (.refl s) hu hf
  have hrequest {taking : State → State} {p : Port} {h : Header} {payload : List Byte}
      (hu : unlessHeld (receiveRequest taking p h payload) s = .next t) (ht : ∀ s, LineStands s (taking s)) :
      LineStands s t := hblock hu (lineStands_receiveRequest ht ..)
  cases c
  case deviceReset e => exact absurd rfl (hreset e)
  case odometry => exact hblock he ((lineStands_takeOdometry ..).forwarded ..)
  case odoLost => exact hblock he (lineStands_watchdogExpiry s)
  case fix => exact hblock he ((lineStands_takeFix ..).forwarded ..)
  case sample => exact hblock he ((lineStands_takeSample ..).forwarded ..)
  case sense => exact hblock he (lineStands_senseFrame ..)
  case localFrameDiscard => cases he; exact .refl s
  case driveAck => exact hblock he (lineStands_receiveAck ..)
  case stepExpiry => exact hblock he (lineStands_runStep s)
  case verifyCompletion => exact hblock he (lineStands_verifyCompletes s)
  case transmissionCompletion => exact hblock he (lineStands_onPort _ (fun _ => portLaw_endTransmission) s)
  case checkError =>
    refine hblock he (lineStands_onPort _ (fun _ h => ?_) s)
    exact h
  case frameForward p h body =>
    cases body
    · exact hrequest he (lineStands_takePayload _ _ _)
    · exact hblock he ((LineStands.refl _).forwarded ..)
  case trailDrop => exact hrequest he (lineStands_takePayload _ _ _)
  case requestUnknown => exact hrequest he (lineStands_takeUnknown _ _ _)
  all_goals exact hrequest he (lineStands_takeRequest (by simp [catalogue]) _ _ _)

/-- Every command has a next state: no command stops the part. -/
theorem exec_completes (c : Instr) (s : State) : ∃ t, exec c s = .next t := by
  cases c
  case deviceReset e => cases e <;> exact ⟨_, rfl⟩
  case frameForward p h body => cases body <;> exact ⟨_, rfl⟩
  all_goals exact ⟨_, rfl⟩

/-- Settles O16: what a command lets stand of the line, item by item. -/
theorem onlyResetForgets : Obligations.OnlyResetForgets := by
  intro c s t he hreset
  obtain ⟨hup, haddress, ⟨named, hmasked⟩, -, -⟩ := lineStands_exec hreset he
  have hkept {x y : Bool} (hx : x = true) : (x || y) = true := by rw [hx, Bool.true_or]
  rw [hmasked]
  exact ⟨hup, haddress, hkept, hkept, hkept, hkept⟩

/-- Settles O2: device reset starts from the waiting commands it finds, and every other command lets them stand. -/
theorem everyCommandCompletes : Obligations.EveryCommandCompletes := by
  intro c s
  obtain ⟨t, he⟩ := exec_completes c s
  refine ⟨t, he, ?_⟩
  by_cases hreset : ∃ e, c = .deviceReset e
  · obtain ⟨e, rfl⟩ := hreset
    cases e <;> cases he <;> rfl
  · exact (lineStands_exec (fun e h => hreset ⟨e, h⟩) he).pending

/-- The law of the queues over every command: device reset leaves empty queues and IDLE transmitters (R176). -/
theorem lineLaw_exec {c : Instr} {s t : State} (hs : LineLaw s) (he : exec c s = .next t) : LineLaw t := by
  by_cases hreset : ∃ e, c = .deviceReset e
  · obtain ⟨e, rfl⟩ := hreset
    have hempty : PortLaw {} := ⟨Nat.zero_le _, Nat.zero_le _, Nat.zero_le _, fun _ => ⟨rfl, rfl⟩⟩
    cases e <;> cases he <;> exact ⟨hempty, hempty⟩
  · exact (lineStands_exec (fun e h => hreset ⟨e, h⟩) he).law hs

/-- Settles O9: every command keeps the law, and so does a tick of the clock. -/
theorem stepKeepsLineLaw : Obligations.StepKeepsLineLaw := by
  intro s t hs he
  unfold step at he
  split at he
  · refine lineLaw_exec ?_ he
    exact hs
  · unfold idle at he
    split at he
    · cases he; exact hs
    · exact lineLaw_exec hs he
    · refine lineLaw_exec ?_ he
      exact hs

end Sys2Proof.Machine

/-! SUPPORT. The line ports (R157, R158) and the frames this node makes (R162, R163). -/

namespace Sys2Proof.Machine

open Sys2Proof.Safety

/-! ### The arbiter, by what it finds (R158) -/

section
variable {p : PortState}

theorem arbitrate_sending {x : Frame} (h : p.sending = some x) : arbitrate p = p := by
  simp only [arbitrate, h]

variable (h : p.sending = none)

include h

theorem arbitrate_empty (hf : p.fwd = []) (ho : p.own = []) : arbitrate p = p := by
  simp only [arbitrate, h, hf, ho]

theorem arbitrate_forward {f : Frame} {fs : List Frame} (hf : p.fwd = f :: fs) (ho : p.own = []) :
    arbitrate p = { p with sending := some f, fwd := fs, streak := 0 } := by
  simp only [arbitrate, h, hf, ho]

theorem arbitrate_own {o : Frame} {os : List Frame} (hf : p.fwd = []) (ho : p.own = o :: os) :
    arbitrate p = { p with sending := some o, own := os, streak := 0 } := by
  simp only [arbitrate, h, hf, ho]

variable {f o : Frame} {fs os : List Frame} (hf : p.fwd = f :: fs) (ho : p.own = o :: os)

include hf ho

/-- With frames in both queues a forwarded frame goes first while fewer than four have gone so in a row. -/
theorem arbitrate_both_forward (hs : p.streak < 4) :
    arbitrate p = { p with sending := some f, fwd := fs, streak := p.streak + 1 } := by
  simp only [arbitrate, h, hf, ho, if_pos hs]

theorem arbitrate_both_own (hs : ¬ p.streak < 4) :
    arbitrate p = { p with sending := some o, own := os, streak := 0 } := by
  simp only [arbitrate, h, hf, ho, if_neg hs]

end

/-! ### A frame that joins a queue (R157) -/

section
variable {p : PortState} (f : Frame)

theorem joinForward_full (h : p.fwd.length = 16) : joinForward f p = { p with overrun := count16 p.overrun } :=
  if_neg (by rw [h]; decide)

theorem joinOwn_full (h : p.own.length = 8) : joinOwn f p = { p with ownDrop := count16 p.ownDrop } :=
  if_neg (by rw [h]; decide)

theorem joinForward_room (h : p.fwd.length < 16) : joinForward f p = arbitrate { p with fwd := p.fwd ++ [f] } :=
  if_pos h

theorem joinOwn_room (h : p.own.length < 8) : joinOwn f p = arbitrate { p with own := p.own ++ [f] } := if_pos h

/-- An IDLE port with empty queues sends the frame at once, from whichever queue. -/
theorem join_idle (h : p.sending = none) (hf : p.fwd = []) (ho : p.own = []) :
    joinForward f p = { p with sending := some f, fwd := [], streak := 0 }
      ∧ joinOwn f p = { p with sending := some f, own := [], streak := 0 } := by
  constructor
  · rw [joinForward_room f (by simp [hf])]
    exact arbitrate_forward (p := { p with fwd := p.fwd ++ [f] }) h (by simp [hf]) ho
  · rw [joinOwn_room f (by simp [ho])]
    exact arbitrate_own (p := { p with own := p.own ++ [f] }) h hf (by simp [ho])

end

theorem endTransmission_sending {p : PortState} {x : Frame} (h : p.sending = some x) :
    endTransmission p = arbitrate { p with sending := none } := by
  simp only [endTransmission, h]

/-- Settles O21: a frame that joins by the room it finds, and the end of a transmission by what waits. -/
theorem lineQueuesAndArbiter : Obligations.LineQueuesAndArbiter := by
  intro p f x
  refine ⟨joinForward_full f, joinOwn_full f, fun hroom hsending => ?_, fun hroom hsending => ?_, join_idle f,
    fun port s hheld hport hsending => ⟨endTransmission p, ?_, ?_⟩⟩
  · exact (joinForward_room f hroom).trans (arbitrate_sending hsending)
  · exact (joinOwn_room f hroom).trans (arbitrate_sending hsending)
  · subst hport
    exact unlessHeld_awake hheld _
  · rw [endTransmission_sending hsending]
    have hidle : ({ p with sending := none } : PortState).sending = none := rfl
    exact ⟨arbitrate_empty hidle, fun _ _ => arbitrate_forward hidle,
      fun _ _ _ _ hf ho hs => arbitrate_both_forward hidle hf ho (Nat.lt_succ_of_le hs),
      fun _ _ _ _ hf ho hs => arbitrate_both_own hidle hf ho (by simp [hs]), fun _ _ => arbitrate_own hidle⟩

/-! ### Replies and reports (R162, R163) -/

theorem replyPort_known {s : State} {p : Port} (h : s.line.upstream = some p) (arrival : Port) :
    replyPort s arrival = p := by
  rw [replyPort, h, Option.getD_some]

theorem replyPort_unknown {s : State} (h : s.line.upstream = none) (arrival : Port) :
    replyPort s arrival = arrival := by
  rw [replyPort, h, Option.getD_none]

/-- With the upstream port known a report joins the queue of that port alone. -/
theorem sendReport_ports_known {s : State} {p : Port} (h : s.line.upstream = some p) (r : Report) :
    portOf (sendReport r s).line p = joinOwn (reportFrame s r) (portOf s.line p)
      ∧ portOf (sendReport r s).line (otherPort p) = portOf s.line (otherPort p) := by
  simp only [sendReport, h]
  cases p <;> exact ⟨rfl, rfl⟩

/-- With the upstream port unknown a report joins the queues of both ports, under one tag. -/
theorem sendReport_ports_unknown {s : State} (h : s.line.upstream = none) (r : Report) (p : Port) :
    portOf (sendReport r s).line p = joinOwn (reportFrame s r) (portOf s.line p) := by
  simp only [sendReport, h]
  cases p <;> rfl

/-- Settles O26, by whether the upstream port is known. -/
theorem ownFramesFormed : Obligations.OwnFramesFormed := by
  intro arrival source tag code result payload r s reply report
  have hreply : sendReply arrival source tag code result payload s
      = onPort (replyPort s arrival) (joinOwn reply) s := rfl
  refine ⟨fun p hp => ⟨?_, sendReport_ports_known hp r⟩, fun hnone => ⟨?_, sendReport_ports_unknown hnone r⟩,
    sendReport_line_reportTag r s, ?_⟩
  · rw [hreply, replyPort_known hp]
  · rw [hreply, replyPort_unknown hnone]
  · rw [sendReport_eq]

end Sys2Proof.Machine

/-! SUPPORT. REQUEST frames by their destination and their code (R155, R161, R167), and the frames passed on (R154). -/

namespace Sys2Proof.Machine

open Sys2Proof.Safety

/-! ### The catalogue (R161) -/

theorem catalogue_codes : catalogue.map RequestRow.code =
    [1#8, 2#8, 3#8, 4#8, 5#8, 6#8, 7#8, 8#8, 9#8, 10#8, 11#8, 12#8, 13#8, 14#8, 15#8, 16#8, 17#8, 18#8, 19#8, 20#8,
      21#8, 22#8] := rfl

/-- The catalogue has the codes of R161, each with its required level. -/
theorem catalogue_required (code : Byte) :
    (catalogue.find? fun row => row.code = code).map RequestRow.required = requiredLevel code := by
  revert code
  decide

/-- A code with a required level is that of one row. -/
theorem row_of_required {code : Byte} {required : Nat} (h : requiredLevel code = some required) :
    ∃ row ∈ catalogue, row.code = code ∧ row.required = required := by
  rw [← catalogue_required, Option.map_eq_some_iff] at h
  obtain ⟨row, hfind, hrequired⟩ := h
  exact ⟨row, List.mem_of_find?_eq_some hfind, of_decide_eq_true (List.find?_some hfind :), hrequired⟩

/-- A code without one is that of none. -/
theorem code_ne_of_required {code : Byte} (h : requiredLevel code = none) : ∀ row ∈ catalogue, row.code ≠ code := by
  rw [← catalogue_required, Option.map_eq_none_iff, List.find?_eq_none] at h
  simpa using h

section
variable (port : Port) (h : Header) (args : List Byte) (s : State)

theorem takePayload_row : ∀ row ∈ catalogue, takePayload port h (row.code :: args) = takeRequest row port h args := by
  simp only [catalogue, List.forall_mem_cons]
  exact ⟨rfl, rfl, rfl, rfl, rfl, rfl, rfl, rfl, rfl, rfl, rfl, rfl, rfl, rfl, rfl, rfl, rfl, rfl, rfl, rfl, rfl, rfl,
    nofun⟩

/-- A REQUEST frame under a code of the catalogue is the command of that row (11.2). -/
theorem exec_decodeRequest_row : ∀ row ∈ catalogue,
    exec (decodeRequest port h (row.code :: args)) s = unlessHeld (receiveRow row port h args) s := by
  simp only [catalogue, List.forall_mem_cons]
  exact ⟨rfl, rfl, rfl, rfl, rfl, rfl, rfl, rfl, rfl, rfl, rfl, rfl, rfl, rfl, rfl, rfl, rfl, rfl, rfl, rfl, rfl, rfl,
    nofun⟩

variable {code : Byte} (hcode : ∀ row ∈ catalogue, row.code ≠ code)

include hcode

theorem decodeRequest_unknown : decodeRequest port h (code :: args) = .requestUnknown port h (code :: args) := by
  have hne : ∀ k ∈ catalogue.map RequestRow.code, code ≠ k := List.forall_mem_map.2 fun row hm => (hcode row hm).symm
  rw [catalogue_codes] at hne
  simp only [List.forall_mem_cons] at hne
  simp only [decodeRequest, hne, if_false]

theorem takePayload_unknown : takePayload port h (code :: args) = takeUnknown port h (code :: args) := by
  have hfind : (catalogue.find? fun row => row.code = code) = none := by simpa using hcode
  funext s
  simp only [takePayload, hfind]

end

/-- A REQUEST frame means one thing: the command its payload spells takes it by its code. -/
theorem exec_decodeRequest (port : Port) (h : Header) (payload : List Byte) (s : State) :
    exec (decodeRequest port h payload) s
      = unlessHeld (receiveRequest (takePayload port h payload) port h payload) s := by
  cases payload with
  | nil => rfl
  | cons code args =>
    by_cases hcode : ∃ row ∈ catalogue, row.code = code
    · obtain ⟨row, hrow, rfl⟩ := hcode
      rw [exec_decodeRequest_row port h args s row hrow, takePayload_row port h args row hrow]
      rfl
    · have hne : ∀ row ∈ catalogue, row.code ≠ code := fun row hm heq => hcode ⟨row, hm, heq⟩
      rw [decodeRequest_unknown port h args hne, takePayload_unknown port h args hne]
      rfl

/-! ### Frames passed on (R154 to R156) -/

/-- Settles O22: what is counted and forwarded, and the one meaning of a REQUEST frame. -/
theorem passedFrames : Obligations.PassedFrames := by
  intro port h kind payload s
  refine ⟨fun hheld => ?_, fun hheld hmask hdest haddress => ?_, (exec_decodeRequest ..).symm,
    (exec_decodeRequest ..).symm⟩
  · exact (unlessHeld_awake hheld _).trans (congrArg _ (forward_eq ..))
  · have htakes : takesRequest s h.dest = false := by simp [takesRequest, hdest, haddress]
    exact (unlessHeld_awake hheld _).trans
      (congrArg _ ((receiveRequest_passed hmask htakes ..).trans (forward_eq ..)))

/-- Settles O23: under the mask the taking of a request, whatever its code, is not reached. -/
theorem trailRequestsDropped : Obligations.TrailRequestsDropped := by
  intro port h payload s hheld hmask hup t u
  have htrail : trailMasked s port = true := by simp [trailMasked, hmask, hup]
  have hdropped : exec (.trailDrop port h payload) s = .next u :=
    (unlessHeld_awake hheld _).trans (congrArg _ (receiveRequest_masked htrail ..))
  exact ⟨hdropped, (exec_decodeRequest ..).trans hdropped⟩

/-! ### Requests refused by the line interface (R160, R161) -/

/-- Settles O24: the line interface refuses the code's row before its owner is asked. -/
theorem requestLevelRefused : Obligations.RequestLevelRefused := by
  intro port h code args required s hrequired hheld hmask htakes hlevel t
  obtain ⟨row, hrow, rfl, rfl⟩ := row_of_required hrequired
  rw [exec_decodeRequest_row port h args s row hrow, unlessHeld_awake hheld, receiveRow_refused hmask htakes hlevel]
  rfl

/-- Settles O25, by whether the payload has a code. -/
theorem unknownRequestAnswered : Obligations.UnknownRequestAnswered := by
  intro port h s hheld hmask htakes
  have hanswered {payload : List Byte} {t : State} (ht : takeUnknown port h payload (countReceived port s) = t)
      (hl : t.line.address = s.line.address) :
      exec (.requestUnknown port h payload) s = .next (passBroadcast port h payload t) := by
    subst ht
    exact (unlessHeld_awake hheld _).trans (congrArg _ (receiveRequest_taken hmask htakes hl))
  exact ⟨fun code args hcode => ⟨decodeRequest_unknown port h args (code_ne_of_required hcode),
    hanswered (t := sendReply port h.source h.tag code .unknown .empty (requestCounted port s)) rfl (by simp)⟩,
    hanswered (t := sendReply port h.source h.tag (Config.missingCode s.freeCount) .unknown .empty
      { requestCounted port s with freeCount := s.freeCount + 1 }) rfl (by simp)⟩

end Sys2Proof.Machine

/-! SUPPORT. STATUS READ (R164): the page a code names, each with what it shows. -/

namespace Sys2Proof.Machine

open Sys2Proof.Safety

section
variable {r : Request} {s : State}

theorem takeStatusRead_badArg (h : r.args.length < 1 ∨ statusPage (arg8 r.args 0) s = none) :
    takeStatusRead r s = (s, answer .badArg) := by
  unfold takeStatusRead
  split
  · rfl
  · next hlen => rw [h.resolve_left hlen]

theorem takeStatusRead_shown {page : StatusPage} (hlen : 1 ≤ r.args.length)
    (hpage : statusPage (arg8 r.args 0) s = some page) :
    takeStatusRead r s = (s, answer .done (.status page s.mode.mode s.line.masked s.line.address)) := by
  simp only [takeStatusRead, if_neg (Nat.not_lt.2 hlen), hpage]

end

/-- The codes that name no page (11.2). -/
theorem statusPage_eq_none {code : Nat} (h : code = 0 ∨ 9 < code) (s : State) : statusPage code s = none := by
  unfold statusPage
  split
  case h_10 => rfl
  all_goals omega

theorem isSome_eq_decide {α : Type} (x : Option α) [Decidable (x ≠ none)] : x.isSome = decide (x ≠ none) := by
  cases x <;> simp

/-- A port on the LINE page shows the numbers of its frames (R164). -/
theorem portPage_eq (p : PortState) : portPage p = {
    forwarding := p.fwd.length, own := p.own.length, sending := decide (p.sending ≠ none), streak := p.streak
    received := p.received, checkErrors := p.checkErrors, overrun := p.overrun, ownDrop := p.ownDrop } := by
  rw [portPage, isSome_eq_decide]

/-- The LINE page with the request counted that asks for it. -/
theorem linePage_requestCounted (port : Port) (s : State) : linePage (requestCounted port s).line = {
    upstream := s.line.upstream, floorA := s.line.floorA, floorB := s.line.floorB, masked := s.line.masked
    portA := portPage (requestCounted port s).line.portA, portB := portPage (requestCounted port s).line.portB
    reportTag := s.line.reportTag, trailDrop := s.line.trailDrop, requestsTaken := count16 s.line.requestsTaken
    levelRefusals := s.line.levelRefusals } := by
  simp [linePage, requestCounted]

/-- Of the line a position query reads the upstream port alone (R9, R10). -/
theorem positionQuery_line {s : State} {l : LineInterface} (h : l.upstream = s.line.upstream) :
    positionQuery { s with line := l } = positionQuery s := by
  simp only [positionQuery, carSum, queryDirection, offsetInUse, orientation, h]
  rfl

/-- A bank in canonical form shows how many of its slots are written (R41). -/
theorem bankPage_eq {b : Bank} (h : slotsWf 512 b.slots = true) : bankPage b = {
    state := b.state, count := b.count, last := b.last
    written := ((List.range 512).filter fun i => decide (slotGet b.slots i ≠ none)).length } := by
  rw [bankPage, length_written h]

/-- Settles O27, page by page. -/
theorem statusReadPages : Obligations.StatusReadPages := by
  intro port h args s ha t run shown ofPort ofBank
  let r : Request := { port := port, h := h, args := args, level := effectiveLevel s port h }
  have haddress : t.line.address = s.line.address := requestCounted_line_address port s
  have hshown {code : Nat} {page : StatusPage} (hlen : 1 ≤ args.length) (hcode : arg8 args 0 = code)
      (hpage : statusPage code t = some page) : shown page := by
    have htake := takeStatusRead_shown (r := r) hlen (hcode ▸ hpage)
    rw [haddress, requestCounted_line_masked] at htake
    exact exec_concludes (row := statusReadRow) rfl ha htake haddress
  refine ⟨fun hbad => ?_, fun hlen => ⟨fun hcode => hshown hlen hcode ?line, fun hcode => hshown hlen hcode ?position,
    fun hcode => hshown hlen hcode rfl, fun hcode hs => hshown hlen hcode ?store, fun hcode => hshown hlen hcode rfl,
    fun hcode => hshown hlen hcode rfl, fun hcode => hshown hlen hcode ?mode, fun hcode => hshown hlen hcode rfl,
    fun hcode => hshown hlen hcode rfl⟩⟩
  · exact exec_concludes (row := statusReadRow) rfl ha
      (takeStatusRead_badArg (r := r) (hbad.imp_right fun hcode => statusPage_eq_none hcode t)) haddress
  case line =>
    show some (StatusPage.line (linePage t.line)) = _
    rw [linePage_requestCounted, portPage_eq, portPage_eq]
    rfl
  case position =>
    show some (StatusPage.position (positionPage t)) = _
    have hquery : positionQuery t = positionQuery s := positionQuery_line (requestCounted_line_upstream port s)
    rw [positionPage, hquery, requestCounted_line_upstream]
    rfl
  case store =>
    obtain ⟨⟨⟨⟨-, hbank0⟩, hbank1⟩, hbank2⟩, hbank3⟩ := by simpa only [Memory.wf, Bool.and_eq_true] using hs.1
    show some (StatusPage.store (storePage s.store)) = _
    rw [storePage, bankPage_eq hbank0, bankPage_eq hbank1, bankPage_eq hbank2, bankPage_eq hbank3]
  case mode =>
    show some (StatusPage.mode s.mode s.holdReply.isSome) = _
    rw [isSome_eq_decide]

end Sys2Proof.Machine

/-! SUPPORT. PARAM SET and PARAM READ (R165): the value applied, and the expiry of the watchdog that it can move into
the past (R13). -/

namespace Sys2Proof.Machine

open Sys2Proof.Safety

/-- An admitted request of the catalogue, answered by its owner, who never moves the node address (R159). -/
theorem exec_answers {c : Instr} {row : RequestRow} {port : Port} {h : Header} {args : List Byte} {s t : State}
    {result : ResultCode} {payload : ReplyPayload} (hm : row ∈ catalogue)
    (hc : exec c s = unlessHeld (receiveRow row port h args) s) (ha : Admitted s port h row.required)
    (ht : row.take { port := port, h := h, args := args, level := effectiveLevel s port h } (requestCounted port s)
      = (t, answer result payload)) :
    exec c s = .next (concludeRequest port h row.code args result payload t) := by
  have hstands := lineStands_take hm
    { port := port, h := h, args := args, level := effectiveLevel s port h } (requestCounted port s)
  rw [ht] at hstands
  exact exec_concludes hc ha ht (hstands.address.trans (requestCounted_line_address port s))

/-! ### The value applied (R2) -/

theorem appliedValue_eq (x : Param) (p : Params) (v : Int) :
    appliedValue x p v =
      if x = .odoTimeout then min (max (paramRange x).1 (min (paramRange x).2 v)) p.odoLostMs
      else if x = .odoLostMs then max (max (paramRange x).1 (min (paramRange x).2 v)) p.odoTimeout
      else max (paramRange x).1 (min (paramRange x).2 v) := by
  cases x <;> rfl

/-- A parameter reads as a PARAM SET applies it: a range begins at 0 or above wherever a parameter is a natural number,
and the timing clamp never goes below 0. -/
theorem getParam_setParam_applied (x : Param) (p : Params) (v : Int) (s : State) :
    getParam x (setParam x (appliedValue x p v) s) = appliedValue x p v := by
  have hlower := limitTo_lower (paramRange x).1 (paramRange x).2 v
  by_cases htimeout : x = .odoTimeout
  · subst htimeout
    exact Int.toNat_of_nonneg (le_min (le_trans (by decide) hlower) (Int.natCast_nonneg _))
  · refine getParam_setParam_same ?_ s
    cases x
    case odoTimeout => exact absurd rfl htimeout
    case odoLostMs => exact le_max_of_le_left hlower
    all_goals exact hlower

theorem getParam_requestCounted (port : Port) (s : State) (y : Param) :
    getParam y (requestCounted port s) = getParam y s := by
  have hkept : ParamsKept s (requestCounted port s) :=
    ⟨rfl, requestCounted_line_floorA port s, requestCounted_line_floorB port s⟩
  exact hkept.getParam_eq y

/-! ### The expiry moved into the past (R13) -/

/-- The expiry of a running watchdog, once odo_lost_ms is set, lies at or before the present instant. -/
theorem expiry_reached_iff {v : Int} (hv : 0 ≤ v) (s : State) :
    reached (setParam .odoLostMs v s) (watchdogDue (setParam .odoLostMs v s)) = true
      ↔ s.pos.watchdog = .running
        ∧ ∃ arrival, s.clock.arrival = some arrival ∧ (arrival : Int) + v * 2000 ≤ s.clock.now := by
  cases hw : s.pos.watchdog <;> cases ha : s.clock.arrival <;>
    simp [setParam, setIn, watchdogDue, reached, Config.ticksPerMs, hw, ha]
  exact decide_eq_true_iff.trans (by omega)

section
variable {x : Param} {v : Int} {s : State}

theorem applyParam_set (h : ¬ (x = .odoLostMs ∧ reached (setParam x v s) (watchdogDue (setParam x v s)) = true)) :
    applyParam x v s = setParam x v s := by
  simp only [applyParam, if_neg h]

theorem applyParam_expires (h : x = .odoLostMs ∧ reached (setParam x v s) (watchdogDue (setParam x v s)) = true) :
    applyParam x v s =
      takeFault .odoLost { setParam x v s with pos := { s.pos with watchdog := .idle } } := by
  simp only [applyParam, if_pos h, watchdogExpires, setParam_pos]

end

/-! ### PARAM SET and PARAM READ (R165) -/

section
variable {r : Request} {s : State}

theorem isFloor_iff (x : Param) : isFloor x = true ↔ x = .floorA ∨ x = .floorB := by
  simp only [isFloor, Bool.or_eq_true, decide_eq_true_eq]

theorem takeParamSet_badArg (h : r.args.length < 3 ∨ paramOfCode (arg8 r.args 0) = none) :
    takeParamSet r s = (s, answer .badArg) := by
  unfold takeParamSet
  split
  · rfl
  · next hlen => rw [h.resolve_left hlen]

theorem takeParamRead_badArg (h : r.args.length < 1 ∨ paramOfCode (arg8 r.args 0) = none) :
    takeParamRead r s = (s, answer .badArg) := by
  unfold takeParamRead
  split
  · rfl
  · next hlen => rw [h.resolve_left hlen]

variable {x : Param} (hx : paramOfCode (arg8 r.args 0) = some x)

include hx

theorem takeParamRead_value (hlen : 1 ≤ r.args.length) :
    takeParamRead r s = (s, answer .done (.value (getParam x s))) := by
  simp only [takeParamRead, if_neg (Nat.not_lt.2 hlen), hx]

variable (hlen : 3 ≤ r.args.length)

include hlen

theorem takeParamSet_level (hfloor : x = .floorA ∨ x = .floorB) (hlevel : 0 < r.level) :
    takeParamSet r s =
      ({ s with line := { s.line with levelRefusals := count16 s.line.levelRefusals } }, answer .level) := by
  simp only [takeParamSet, if_neg (Nat.not_lt.2 hlen), hx, if_pos (And.intro ((isFloor_iff x).2 hfloor) hlevel)]

theorem takeParamSet_applied (hlevel : x = .floorA ∨ x = .floorB → r.level = 0) {a : Int}
    (ha : appliedValue x s.params (argInt16 r.args 1) = a) :
    takeParamSet r s = (applyParam x a s,
      answer (if a = argInt16 r.args 1 then .done else .clamped)
        (if a = argInt16 r.args 1 then .empty else .value a)) := by
  have hauthority : ¬ (isFloor x = true ∧ 0 < r.level) := fun ⟨hfloor, hpos⟩ =>
    absurd (hlevel ((isFloor_iff x).1 hfloor)) (Nat.ne_of_gt hpos)
  simp only [takeParamSet, if_neg (Nat.not_lt.2 hlen), hx, if_neg hauthority, ha]
  split <;> rfl

end

/-- Settles O28: the checks in their order, and the value applied, with the expiry or without. -/
theorem paramRequests : Obligations.ParamRequests := by
  intro port h args s t
  let r : Request := { port := port, h := h, args := args, level := effectiveLevel s port h }
  have hset : paramSetRow ∈ catalogue := by simp [catalogue]
  have hread : paramReadRow ∈ catalogue := by simp [catalogue]
  refine ⟨fun ha hbad => exec_answers hset rfl ha (takeParamSet_badArg (r := r) hbad),
    fun ha hbad => exec_answers hread rfl ha (takeParamRead_badArg (r := r) hbad),
    fun x hx => ⟨fun ha hlen hfloor hlevel => ?_, fun ha hlen hlevel => ?_, fun ha hlen => ?_⟩⟩
  · exact exec_answers hset rfl ha (takeParamSet_level (r := r) (s := t) hx hlen hfloor hlevel)
  · intro v w a u passed applied
    have hvalue : appliedValue x t.params v = a := appliedValue_eq x s.params v
    have happlied : applied (applyParam x a t) := by
      refine ⟨exec_answers hset rfl ha (takeParamSet_applied (r := r) hx hlen hlevel hvalue), ?_, fun y hy => ?_⟩
      · rw [(paramsKept_applyParam x a t).getParam_eq, ← hvalue, getParam_setParam_applied]
      · rw [(paramsKept_applyParam x a t).getParam_eq, getParam_setParam_other hy, getParam_requestCounted]
    have hpassed : (x = .odoLostMs ∧ reached u (watchdogDue u) = true) ↔ passed := by
      refine and_congr_right fun hlost => ?_
      subst hlost
      have hrange : (200 : Int) ≤ a := le_max_of_le_left (le_max_left _ _)
      exact expiry_reached_iff (le_trans (by decide) hrange) t
    refine ⟨fun hkept => ?_, fun hexpires => ?_⟩
    · rwa [applyParam_set (mt hpassed.1 hkept)] at happlied
    · rwa [applyParam_expires (hpassed.2 hexpires)] at happlied
  · have htake := takeParamRead_value (r := r) (s := t) hx hlen
    rw [getParam_requestCounted] at htake
    exact exec_answers hread rfl ha htake

end Sys2Proof.Machine

/-! SUPPORT. FEATURE MASK (R61, R136, R166, R174) and RESTART (R137, R168, R174). -/

namespace Sys2Proof.Machine

open Sys2Proof.Safety

/-! ### FEATURE MASK (R166) -/

/-- A set names features alone when its bits 4 .. 7 are clear (11.2). -/
theorem namesNoFeature_eq_false_iff (set : Byte) :
    namesNoFeature set = false ↔ ∀ i, 4 ≤ i → i ≤ 7 → set.getLsbD i = false := by
  simp only [namesNoFeature, bne_eq_false_iff_eq, BitVec.eq_of_getLsbD_eq_iff, BitVec.getLsbD_extractLsb',
    BitVec.getLsbD_zero]
  constructor
  · intro h i hlo hhi
    simpa [show i - 4 < 4 by omega, show 4 + (i - 4) = i by omega] using h (i - 4) (by omega)
  · intro h i hi
    simp [h (4 + i) (by omega) (by omega)]

/-- A feature is newly masked when it was not masked and the set names it. -/
theorem newlyMasked_iff (before named : Bool) :
    ((before || named) && !before) = true ↔ before = false ∧ named = true := by
  cases before <;> simp

theorem withoutPredictive_eq (x : ChosenMode) : withoutPredictive x = if x = .predictive then .reactive else x := by
  cases x <;> rfl

section
variable {s : State}

/-- In PREDICTIVE the masking of PREDICTIVE changes the mode, which is reported (R136). -/
theorem maskPredictive_left (h : s.mode.mode = .predictive) :
    maskPredictive s = modeChanged .mask (maskedMode s.mode) s :=
  changeMode_changed (by simp [maskedMode, h])

/-- In any other mode it rewrites the modes held alone. -/
theorem maskPredictive_kept (h : s.mode.mode ≠ .predictive) :
    maskPredictive s = { s with mode := maskedMode s.mode } :=
  changeMode_same (by simp [maskedMode, h])

theorem maskPredictive_audit (s : State) : (maskPredictive s).audit = s.audit := by
  rw [maskPredictive, changeMode_eq]

theorem maskPredictive_store (s : State) : (maskPredictive s).store = s.store := by
  rw [maskPredictive, changeMode_eq]

/-- The masking of LOAD discards a staged burst (R61). -/
theorem maskLoad_eq (s : State) :
    maskLoad s = if s.store.staged ≠ none then
      { s with store := { s.store with staged := none, interruptions := count16 s.store.interruptions } } else s := by
  cases h : s.store.staged <;> simp [maskLoad, abandonStaged, h]

end

section
variable {r : Request} {s : State}

theorem takeFeatureMask_badArg (h : r.args.length < 1 ∨ namesNoFeature (argByte r.args 0) = true) :
    takeFeatureMask r s = (s, answer .badArg) := by
  rw [takeFeatureMask, if_pos h]

theorem takeFeatureMask_masks (hlen : 1 ≤ r.args.length) (h : namesNoFeature (argByte r.args 0) = false)
    {after : Features} (hafter : joinFeatures s.line.masked (featuresOf (argByte r.args 0)) = after) :
    takeFeatureMask r s =
      (maskEffects s.line.masked after { s with line := { s.line with masked := after } },
        answer .done (.capability after)) := by
  have hgood : ¬ (r.args.length < 1 ∨ namesNoFeature (argByte r.args 0) = true) :=
    not_or.2 ⟨Nat.not_lt.2 hlen, by rw [h]; nofun⟩
  rw [takeFeatureMask, if_neg hgood, hafter]

end

/-- Settles O45: the checks, then the effects in their order, each of a feature newly masked. -/
theorem featureMaskActs : Obligations.FeatureMaskActs := by
  intro port h args s ha t
  let r : Request := { port := port, h := h, args := args, level := effectiveLevel s port h }
  have hrow : featureMaskRow ∈ catalogue := by simp [catalogue]
  have hbad (hbad : args.length < 1 ∨ namesNoFeature (argByte args 0) = true) :
      exec (.featureMask port h args) s = .next (concludeRequest port h 21#8 args .badArg .empty t) :=
    exec_answers hrow rfl ha (takeFeatureMask_badArg (r := r) hbad)
  refine ⟨fun hlen => hbad (.inl hlen), fun hlen => ?_⟩
  intro bit after m drop rewritten t1 t2 t3 t4
  refine ⟨fun hclear => ?_, fun i hlo hhi hset => hbad (.inr ?_)⟩
  · have hmasked : t.line.masked = s.line.masked := requestCounted_line_masked port s
    have hmode : maskedMode m = rewritten := by
      have hdrop : withoutPredictive = drop := funext withoutPredictive_eq
      rw [maskedMode, hdrop]
    have hpredictive : (if after.predictive && !s.line.masked.predictive then maskPredictive t1 else t1) = t2 := by
      simp only [after, newlyMasked_iff, t2]
      split
      · split
        · next hm => rw [maskPredictive_left (s := t1) hm, ← hmode]; rfl
        · next hm => rw [maskPredictive_kept (s := t1) hm, ← hmode]; rfl
      · rfl
    have hkept : t2.audit = s.audit ∧ t2.store = s.store := by
      rw [← hpredictive]
      split
      · exact ⟨maskPredictive_audit t1, maskPredictive_store t1⟩
      · exact ⟨rfl, rfl⟩
    have haudit : (if after.audit && !s.line.masked.audit then maskAudit t2 else t2) = t3 := by
      simp only [after, newlyMasked_iff, t3, maskAudit, hkept.1]
    have hstore : t3.store = s.store := by
      rw [← haudit]
      split <;> exact hkept.2
    have hload : (if after.load && !s.line.masked.load then maskLoad t3 else t3) = t4 := by
      simp only [after, newlyMasked_iff, t4, maskLoad_eq, hstore, ite_and]
      rfl
    have heffects : maskEffects s.line.masked after t1 = t4 := by
      rw [← hload, ← haudit, ← hpredictive]
      rfl
    have htake := takeFeatureMask_masks (r := r) (s := t) hlen ((namesNoFeature_eq_false_iff _).2 hclear)
      (after := after) (by rw [hmasked]; rfl)
    rw [hmasked] at htake
    rw [← heffects]
    exact exec_answers hrow rfl ha htake
  · by_contra hnone
    have hclear := (namesNoFeature_eq_false_iff _).1 (Bool.eq_false_iff.2 hnone) i hlo hhi
    exact absurd (hset.symm.trans hclear) nofun

/-! ### RESTART (R168) -/

/-- The frames of a RESTART are the same before and after its part at the audit, which they do not read (R174). -/
theorem restartAudit_answerHold (o : SettleOutcome) (s : State) :
    restartAudit (answerHold o s) = answerHold o (restartAudit s) := by
  cases h : s.holdReply <;> simp only [answerHold, restartAudit, h]
  simp only [sendReply, onPort, replyPort]
  rfl

theorem restartAudit_changeMode (reason : ModeReason) (m : ModeController) (s : State) :
    restartAudit (changeMode reason m s) = changeMode reason m (restartAudit s) := by
  by_cases h : m.mode = s.mode.mode
  · rw [changeMode_same h, changeMode_same (s := restartAudit s) h]
    rfl
  · rw [changeMode_changed h, changeMode_changed (s := restartAudit s) h]
    cases hup : s.line.upstream <;> simp only [modeChanged, restartAudit, sendReport, hup] <;> rfl

/-- Settles O46: the blocks that place no frame first, then the HOLD reply and the MODE report. -/
theorem restartActs : Obligations.RestartActs := by
  intro port h args s ha t m t1 t2
  have hheld : answerHold .faulted t1 = t2 := by
    cases hr : s.holdReply <;> simp only [answerHold, t2, t1, t, requestCounted_holdReply, hr]
  have hmode : t2.mode = s.mode := hheld ▸ answerHold_mode .faulted t1
  have hblocks : restartBlocks t = changeMode .restart m t2 := by
    rw [restartBlocks, restartMode, restartAudit_changeMode, restartAudit_answerHold, ← hheld]
    rfl
  have hchange : changeMode .restart m t2
      = if s.mode.mode = .centring then { t2 with mode := m } else modeChanged .restart m t2 := by
    split
    · next hc => exact changeMode_same (by rw [hmode, hc])
    · next hc => exact changeMode_changed (by rw [hmode]; exact Ne.symm hc)
  refine exec_answers (row := restartRow) (by simp [catalogue]) rfl ha ?_
  show (restartBlocks t, answer .done) = _
  rw [hblocks, hchange]

end Sys2Proof.Machine

/-! SUPPORT. The step audit (10): what arming, a hand-over and an answer do, by case (R171 to R173). -/

namespace Sys2Proof.Machine

open Sys2Proof.Safety

/-- A tag pending with its record is completed: the record keeps its items but for the completion, and is reported
(R173). -/
theorem completeAudit_tagged {s : State} {tag : AuditTag} {r : AuditRecord} (hp : s.audit.pending = some tag)
    (hr : s.audit.record = some r) (c : Completion) :
    completeAudit c s = sendReport (.audit { r with completion := c })
      { s with
        audit := { s.audit with record := some { r with completion := c }, pending := none, valid := true } } := by
  simp only [completeAudit, hp, hr]

/-! ### AUDIT ARM (R171) -/

/-- A start count lies in 0 .. 7 (R171). -/
theorem drawCount_le (s : State) : drawCount s ≤ 7 := Nat.le_of_lt_succ (Config.auditDraw s.freeCount).isLt

section

variable {r : Request} {s : State}

theorem takeAuditArm_masked (h : s.line.masked.audit = true) : takeAuditArm r s = (s, answer .masked) := by
  rw [takeAuditArm, if_pos h]

variable (hmask : s.line.masked.audit = false)

include hmask

theorem takeAuditArm_badArg (h : r.args.length < 2 ∨ arg16 r.args 0 < 16) :
    takeAuditArm r s = (s, answer .badArg) := by
  rw [takeAuditArm, if_neg (by rw [hmask]; nofun)]
  split
  · rfl
  · next hlen => rw [if_pos (h.resolve_left hlen)]

variable (hlen : 2 ≤ r.args.length) (hperiod : 16 ≤ arg16 r.args 0)

include hlen hperiod

theorem takeAuditArm_busy (hp : s.audit.pending ≠ none) : takeAuditArm r s = (s, answer .busy) := by
  rw [takeAuditArm, if_neg (by rw [hmask]; nofun), if_neg (Nat.not_lt.2 hlen), if_neg (Nat.not_lt.2 hperiod),
    if_pos (Option.isSome_iff_ne_none.2 hp)]

theorem takeAuditArm_arms (hp : s.audit.pending = none) :
    takeAuditArm r s =
      ({ s with
          audit := { s.audit with
            period := some (arg16 r.args 0), valid := false, record := none, counter := drawCount s, armed := true }
          freeCount := s.freeCount + 1 },
        answer .done (.armed (arg16 r.args 0) s.audit.stepNumber)) := by
  rw [takeAuditArm, if_neg (by rw [hmask]; nofun), if_neg (Nat.not_lt.2 hlen), if_neg (Nat.not_lt.2 hperiod),
    if_neg (Option.not_isSome_iff_eq_none.2 hp)]

end

/-! ### The hand-over (R172) -/

theorem auditRecord_isMove (sum : StepSummary) (x : Drive) (s : State) :
    (auditRecord sum x s).isMove = decide (x.kind ≠ .query) := by
  obtain ⟨seq, kind, answered⟩ := x
  cases kind <;> rfl

theorem auditRecord_stroke_move {x : Drive} {a stroke : Int} (h : x.kind = .move a stroke) (sum : StepSummary)
    (s : State) : (auditRecord sum x s).stroke = some stroke := by
  simp only [auditRecord, h]

theorem auditRecord_stroke_query {x : Drive} (h : x.kind = .query) (sum : StepSummary) (s : State) :
    (auditRecord sum x s).stroke = none := by
  simp only [auditRecord, h]

/-- While a record is held valid nothing is counted (R172 step 2). -/
theorem auditCount_valid {s : State} (h : s.audit.valid = true) (sum : StepSummary) (x : Drive) :
    auditCount sum x s = s := by
  simp only [auditCount, h, Bool.not_true, Bool.and_false, Bool.false_eq_true, if_false]

section

variable {s : State} (harmed : s.audit.armed = true) (hvalid : s.audit.valid = false)

include harmed hvalid

theorem auditCount_counts (hcount : s.audit.period ≠ some (s.audit.counter + 1)) (sum : StepSummary) (x : Drive) :
    auditCount sum x s = { s with audit := { s.audit with counter := s.audit.counter + 1 } } :=
  (if_pos (by rw [harmed, hvalid]; rfl)).trans (if_neg hcount)

theorem auditCount_tags (hcount : s.audit.period = some (s.audit.counter + 1)) (sum : StepSummary) (x : Drive) :
    auditCount sum x s =
      { s with
        audit := { s.audit with
          counter := drawCount s, record := some (auditRecord sum x s)
          pending := some { seq := x.seq, isMove := (auditRecord sum x s).isMove } }
        freeCount := s.freeCount + 1 } :=
  (if_pos (by rw [harmed, hvalid]; rfl)).trans (if_pos hcount)

end

/-- A hand-over with a tag pending completes its record, which is then valid, so that nothing is counted (R172
step 1). -/
theorem auditHandover_tagged {s : State} {tag : AuditTag} {r : AuditRecord} (hp : s.audit.pending = some tag)
    (hr : s.audit.record = some r) (sum : StepSummary) (x : Drive) :
    auditHandover sum x s = completeAudit .noAck s :=
  auditCount_valid (by rw [completeAudit_tagged hp hr, sendReport_audit]) sum x

/-! ### An answer (R173) -/

theorem auditAnswer_same {s : State} {tag : AuditTag} {seq : Byte} (hp : s.audit.pending = some tag)
    (hseq : tag.seq = seq) (stroke angle : Int) (status : AckStatus) :
    auditAnswer seq stroke angle status s = completeAudit (.complete stroke angle status) s := by
  simp only [auditAnswer, hp, hseq, if_true]

theorem auditAnswer_other {s : State} {seq : Byte} (h : ∀ tag, s.audit.pending = some tag → tag.seq ≠ seq)
    (stroke angle : Int) (status : AckStatus) : auditAnswer seq stroke angle status s = s := by
  unfold auditAnswer
  split
  · next tag hp => exact if_neg (h tag hp)
  · rfl

/-- Settles O44: the four parts in turn, AUDIT ARM, the hand-over without a tag pending and with one, and an answer. -/
theorem auditActs : Obligations.AuditActs := by
  refine ⟨fun port h args s ha => ?arming, fun sum x s hp => ?counting, fun sum x s tag r hp hr => ?aborted,
    fun seq stroke angle status s => ⟨fun tag r hp hr hseq => ?answered, fun h => ?unanswered⟩⟩
  case arming =>
    intro t refused
    let r : Request := { port := port, h := h, args := args, level := effectiveLevel s port h }
    have hrow : auditArmRow ∈ catalogue := by simp [catalogue]
    have hmasked : t.line.masked = s.line.masked := requestCounted_line_masked port s
    rw [← hmasked]
    refine ⟨fun hm => exec_answers hrow rfl ha (takeAuditArm_masked hm),
      fun hm hbad => exec_answers hrow rfl ha (takeAuditArm_badArg (r := r) hm hbad), fun hm hlen hperiod =>
      ⟨fun hp => exec_answers hrow rfl ha (takeAuditArm_busy (r := r) hm hlen hperiod hp), fun hp => ?_⟩⟩
    exact ⟨drawCount t, drawCount_le t, exec_answers hrow rfl ha (takeAuditArm_arms (r := r) hm hlen hperiod hp)⟩
  case counting =>
    rw [auditHandover_idle sum x hp]
    refine ⟨fun hstands => ?_, fun ha hv hc => auditCount_counts ha hv hc sum x, fun ha hv hc => ?_⟩
    · rcases hstands with ha | hv
      · exact auditCount_unarmed ha sum x
      · exact auditCount_valid hv sum x
    · refine ⟨drawCount s, auditRecord sum x s, drawCount_le s, ?_, rfl, rfl, rfl, rfl, rfl, rfl, rfl, rfl, rfl, rfl,
        rfl, rfl, rfl, rfl, rfl, rfl, auditRecord_isMove sum x s, fun _ _ h => auditRecord_stroke_move h sum s,
        fun h => auditRecord_stroke_query h sum s, rfl, rfl, rfl⟩
      rw [auditCount_tags ha hv hc, auditRecord_isMove]
  case aborted => exact (auditHandover_tagged hp hr sum x).trans (completeAudit_tagged hp hr _)
  case answered => exact (auditAnswer_same hp hseq ..).trans (completeAudit_tagged hp hr _)
  case unanswered => exact auditAnswer_other h ..

end Sys2Proof.Machine

/-! SUPPORT. The law of the audit record (R172, R173): of the blocks only the drive port's two hand-overs, a fault,
AUDIT ARM, the masking of AUDIT, RESTART and device reset touch the tag or the record. -/

namespace Sys2Proof.Machine

open Sys2Proof.Safety

/-! ### Actions on the audit -/

theorem auditLaw_congr {s t : State} (h : t.audit = s.audit) (hs : AuditLaw s) : AuditLaw t := by
  unfold AuditLaw
  rw [h]
  exact hs

/-- With no tag pending the law asks only for the record of a valid one. -/
theorem auditLaw_idle {s : State} (hp : s.audit.pending = none)
    (hr : s.audit.valid = true → s.audit.record ≠ none) : AuditLaw s := ⟨fun _ h => absurd (hp.symm.trans h) nofun, hr⟩

/-- A completed record is there, and its tag is gone (R173). -/
theorem auditLaw_completeAudit (c : Completion) {s : State} (hs : AuditLaw s) : AuditLaw (completeAudit c s) := by
  obtain ⟨htagged, hvalid⟩ := hs
  cases hp : s.audit.pending with
  | none => rw [completeAudit_idle hp]; exact ⟨htagged, hvalid⟩
  | some tag =>
    obtain ⟨-, r, hr, -⟩ := htagged tag hp
    refine auditLaw_idle (completeAudit_pending c s) fun _ => ?_
    rw [completeAudit_tagged hp hr, sendReport_audit]
    nofun

/-- A tagged step's record is PENDING and of the DRIVE handed over, and is taken only while none is valid (R172). -/
theorem auditLaw_auditCount (sum : StepSummary) (x : Drive) {s : State} (hs : AuditLaw s) :
    AuditLaw (auditCount sum x s) := by
  cases harmed : s.audit.armed with
  | false => rwa [auditCount_unarmed harmed]
  | true =>
    cases hvalid : s.audit.valid with
    | true => rwa [auditCount_valid hvalid]
    | false =>
      by_cases hcount : s.audit.period = some (s.audit.counter + 1)
      · rw [auditCount_tags harmed hvalid hcount]
        refine ⟨fun tag htag => ?_, fun h => absurd (hvalid.symm.trans h) nofun⟩
        cases htag
        exact ⟨hvalid, auditRecord sum x s, rfl, rfl, rfl, rfl⟩
      · rw [auditCount_counts harmed hvalid hcount]
        exact hs

theorem auditLaw_auditHandover (sum : StepSummary) (x : Drive) {s : State} (hs : AuditLaw s) :
    AuditLaw (auditHandover sum x s) := auditLaw_auditCount sum x (auditLaw_completeAudit .noAck hs)

theorem auditLaw_auditAnswer (seq : Byte) (stroke angle : Int) (status : AckStatus) {s : State} (hs : AuditLaw s) :
    AuditLaw (auditAnswer seq stroke angle status s) := by
  unfold auditAnswer
  split
  · split
    · exact auditLaw_completeAudit _ hs
    · exact hs
  · exact hs

/-- A fault leaves the audit alone or completes the pending tag (R131). -/
theorem auditLaw_takeFault (cause : FaultCause) {s : State} (hs : AuditLaw s) : AuditLaw (takeFault cause s) := by
  rcases takeFault_audit cause s with hsame | ⟨u, hu, hcompleted⟩
  · exact auditLaw_congr hsame hs
  · exact auditLaw_congr hcompleted (auditLaw_completeAudit .fault (auditLaw_congr hu hs))

/-! ### The blocks -/

theorem auditLaw_watchdogExpires {s : State} (hs : AuditLaw s) : AuditLaw (watchdogExpires s) :=
  auditLaw_takeFault .odoLost (auditLaw_congr (s := s) rfl hs)

theorem auditLaw_watchdogExpiry {s : State} (hs : AuditLaw s) : AuditLaw (watchdogExpiry s) := by
  unfold watchdogExpiry
  split
  · exact hs
  · exact auditLaw_watchdogExpires (auditLaw_congr (s := s) rfl hs)

theorem auditLaw_takeOdometry (p : Port) (hop : Byte) (x : Word24) (v : Word16) (d : Byte) {s : State}
    (hs : AuditLaw s) : AuditLaw (takeOdometry p hop x v d s) := by
  unfold takeOdometry
  dsimp only
  split
  · exact auditLaw_takeFault .lineTurn (auditLaw_congr (s := s) rfl hs)
  · exact auditLaw_congr (s := s) rfl hs

theorem takeFix_audit (p : Port) (b x : Word24) (a v : Byte) (s : State) : (takeFix p b x a v s).1.audit = s.audit := by
  unfold takeFix leadFix followFix
  (repeat' split) <;> rfl

theorem takeSample_audit (p : Port) (e : PreviewEntry) (s : State) : (takeSample p e s).audit = s.audit := by
  unfold takeSample
  split <;> rfl

theorem senseFrame_audit (a : Word16) (f : Byte) (s : State) : (senseFrame a f s).audit = s.audit := by
  have horiginate (pa : PositionAnswer) (x : State) : (originate pa x).audit = x.audit := by
    unfold originate
    split <;> rfl
  unfold senseFrame
  dsimp only
  split
  · split
    · exact horiginate ..
    · rfl
  · rfl

theorem verifyCompletes_audit (s : State) : (verifyCompletes s).audit = s.audit := by
  unfold verifyCompletes
  split
  · rfl
  · exact sendReport_audit ..

theorem changeMode_audit (reason : ModeReason) (m : ModeController) (s : State) :
    (changeMode reason m s).audit = s.audit := by rw [changeMode_eq]

theorem answerHold_audit (o : SettleOutcome) (s : State) : (answerHold o s).audit = s.audit := by rw [answerHold_eq]

/-- Of an acknowledgement the mode controller's part touches the audit only by a fault (R126). -/
theorem auditLaw_takeAck (kind : DriveKind) (angle : Int) (status : AckStatus) {s : State} (hs : AuditLaw s) :
    AuditLaw (takeAck kind angle status s) := by
  have hcentring (x : State) : (judgeCentring angle x).audit = x.audit := by
    unfold judgeCentring
    split
    · exact changeMode_audit ..
    · rfl
  have hsettle (x : State) : (judgeSettle angle x).audit = x.audit := by
    unfold judgeSettle
    split_ifs
    · rfl
    · rfl
    · exact answerHold_audit ..
    · rfl
  unfold takeAck
  split_ifs
  · exact auditLaw_takeFault _ (auditLaw_congr (s := s) rfl hs)
  · exact auditLaw_congr (s := s) rfl hs
  · exact auditLaw_congr ((hsettle _).trans (hcentring _)) hs

theorem auditLaw_receiveAck (q : Byte) (x : Word16) (st : Byte) {s : State} (hs : AuditLaw s) :
    AuditLaw (receiveAck q x st s) := by
  unfold receiveAck
  split
  · exact auditLaw_auditAnswer _ _ _ _ (auditLaw_takeAck _ _ _ (auditLaw_congr (s := s) rfl hs))
  · exact auditLaw_congr (s := s) rfl hs

/-- A step numbers itself, takes a fault at the third miss, and hands its DRIVE over (R98, R170, R172). -/
theorem auditLaw_runStep {s : State} (hs : AuditLaw s) : AuditLaw (runStep s) := by
  have hbegun : AuditLaw (beginStep s) := hs
  have hformed : AuditLaw (formedStep s) := auditLaw_congr (by rw [formedStep_eq]) hbegun
  have hjudged : AuditLaw (judged (formedStep s)) := by
    unfold judged
    split
    · exact auditLaw_takeFault _ (auditLaw_congr (s := formedStep s) rfl hformed)
    · exact auditLaw_congr (s := formedStep s) rfl hformed
  rw [runStep_eq]
  exact auditLaw_auditHandover _ _ (auditLaw_congr rfl hjudged)

/-! ### The requests -/

/-- The requests that can touch the audit: AUDIT ARM, FEATURE MASK, RESTART, and PARAM SET, whose odo_lost_ms can make
the watchdog expire (R13). -/
def auditRows : List RequestRow := [paramSetRow, auditArmRow, featureMaskRow, restartRow]

/-- An owner's action on its request leaves the audit alone. -/
def OwnerSparesAudit (take : Request → State → State × Answer) : Prop := ∀ r s, (take r s).1.audit = s.audit

/-- Every other request is answered from the state, or changes the walker, the curve store, the stroke table or the mode
controller. -/
theorem ownerSparesAudit_catalogue : ∀ row ∈ catalogue, row ∈ auditRows ∨ OwnerSparesAudit row.take := by
  have haudit {row : RequestRow} (h : row ∈ auditRows) : row ∈ auditRows ∨ OwnerSparesAudit row.take := .inl h
  simp only [catalogue, List.forall_mem_cons]
  refine ⟨.inr fun r s => ?statusRead, haudit (by simp [auditRows]), .inr fun r s => ?paramRead,
    .inr fun r s => ?modeSet, .inr fun r s => ?descWrite, .inr fun r s => ?descClear, .inr fun r s => ?descRead,
    .inr fun r s => ?loadHead, .inr fun r s => ?loadTail, .inr fun r s => ?bankOpen, .inr fun r s => ?bankClose,
    .inr fun r s => ?bankErase, .inr fun r s => ?recordRead, .inr fun r s => ?strokeLoad, .inr fun r s => rfl,
    .inr fun r s => ?sectionSelect, .inr fun r s => ?hold, .inr fun r s => ?release, .inr fun r s => ?resume,
    haudit (by simp [auditRows]), haudit (by simp [auditRows]), haudit (by simp [auditRows]), nofun⟩
  case statusRead | paramRead | descRead | recordRead =>
    simp only [statusReadRow, paramReadRow, descReadRow, recordReadRow, takeStatusRead, takeParamRead, takeDescRead,
      takeRecordRead]
    (repeat' split) <;> rfl
  case descWrite | descClear | sectionSelect | strokeLoad =>
    simp only [descWriteRow, descClearRow, sectionSelectRow, strokeLoadRow, takeDescWrite, takeDescClear,
      takeSectionSelect, takeStrokeLoad]
    (repeat' split) <;> rfl
  case loadHead | loadTail | bankOpen | bankClose | bankErase =>
    simp only [loadHeadRow, loadTailRow, bankOpenRow, bankCloseRow, bankEraseRow, takeLoadHead, takeLoadTail,
      takeBankOpen, takeBankClose, takeBankErase]
    (repeat' split) <;> simp
  case modeSet | hold | release | resume =>
    simp only [modeSetRow, holdRow, releaseRow, resumeRow, takeModeSet, takeHold, takeRelease, takeResume]
    (repeat' split) <;> simp only [answerHold_audit, changeMode_audit]

theorem auditLaw_takeParamSet (r : Request) {s : State} (hs : AuditLaw s) : AuditLaw (takeParamSet r s).1 := by
  have hset (x : Param) (v : Int) : AuditLaw (setParam x v s) := auditLaw_congr (by cases x <;> rfl) hs
  unfold takeParamSet
  split
  · exact hs
  · split
    · exact hs
    · next x _ =>
      split
      · exact auditLaw_congr (s := s) rfl hs
      · dsimp only
        rcases applyParam_cases x (appliedValue x s.params (argInt16 r.args 1)) s with h | ⟨-, -, -, h⟩ <;> rw [h]
        · exact hset ..
        · exact auditLaw_watchdogExpires (hset ..)

/-- An arming finds no tag pending, and clears the record with the valid flag (R171). -/
theorem auditLaw_takeAuditArm (r : Request) {s : State} (hs : AuditLaw s) : AuditLaw (takeAuditArm r s).1 := by
  unfold takeAuditArm
  split_ifs with hmasked hlen hperiod hp
  · exact hs
  · exact hs
  · exact hs
  · exact hs
  · exact auditLaw_idle (Option.not_isSome_iff_eq_none.1 hp) nofun

/-- The masking of AUDIT drops the tag, and keeps the record and the valid flag (R174). -/
theorem auditLaw_maskAudit {s : State} (hs : AuditLaw s) : AuditLaw (maskAudit s) := auditLaw_idle rfl hs.2

theorem auditLaw_takeFeatureMask (r : Request) {s : State} (hs : AuditLaw s) : AuditLaw (takeFeatureMask r s).1 := by
  have heffects (before after : Features) {x : State} (hx : AuditLaw x) : AuditLaw (maskEffects before after x) := by
    have hpred : AuditLaw (if after.predictive && !before.predictive then maskPredictive x else x) := by
      split
      · exact auditLaw_congr (maskPredictive_audit x) hx
      · exact hx
    have haudit (y : State) (hy : AuditLaw y) :
        AuditLaw (if after.audit && !before.audit then maskAudit y else y) := by
      split
      · exact auditLaw_maskAudit hy
      · exact hy
    have hload (y : State) (hy : AuditLaw y) : AuditLaw (if after.load && !before.load then maskLoad y else y) := by
      split
      · exact auditLaw_congr (s := y) rfl hy
      · exact hy
    exact hload _ (haudit _ hpred)
  unfold takeFeatureMask
  split
  · exact hs
  · exact heffects _ _ (auditLaw_congr (s := s) rfl hs)

/-- After RESTART no tag is pending and no record valid (R174). -/
theorem auditLaw_takeRestart (r : Request) (s : State) : AuditLaw (takeRestart r s).1 := auditLaw_idle rfl nofun

theorem auditLaw_take {row : RequestRow} (hm : row ∈ catalogue) (r : Request) {s : State} (hs : AuditLaw s) :
    AuditLaw (row.take r s).1 := by
  have hrows : ∀ row ∈ auditRows, AuditLaw (row.take r s).1 := by
    simp only [auditRows, List.forall_mem_cons]
    exact ⟨auditLaw_takeParamSet r hs, auditLaw_takeAuditArm r hs, auditLaw_takeFeatureMask r hs,
      auditLaw_takeRestart r s, nofun⟩
  rcases ownerSparesAudit_catalogue row hm with hrow | hspares
  · exact hrows row hrow
  · exact auditLaw_congr (hspares r s) hs

/-! ### Commands -/

theorem lineBlind_auditLaw : LineBlind AuditLaw where
  line _ _ _ _ _ _ _ hs := hs
  held _ _ hs := hs
  free _ _ hs := hs

theorem timeBlind_auditLaw : TimeBlind AuditLaw where
  now _ _ hs := hs
  pending _ _ hs := hs

/-- Every command keeps the law; device reset leaves no tag and no record (R176). -/
theorem auditLaw_exec {c : Instr} {s t : State} (hs : AuditLaw s) (he : exec c s = .next t) : AuditLaw t :=
  lineBlind_auditLaw.exec (fun _ hm r _ h => auditLaw_take hm r h)
    (fun _ _ _ => auditLaw_idle rfl nofun)
    (fun _ _ _ _ _ _ h => auditLaw_takeOdometry _ _ _ _ _ h)
    (fun _ h => auditLaw_watchdogExpiry h)
    (fun _ _ _ _ _ _ h => auditLaw_congr (takeFix_audit ..) h)
    (fun _ _ _ h => auditLaw_congr (takeSample_audit ..) h)
    (fun _ _ _ h => auditLaw_congr (senseFrame_audit ..) h)
    (fun _ _ _ _ h => auditLaw_receiveAck _ _ _ h)
    (fun _ h => auditLaw_runStep h)
    (fun _ h => auditLaw_congr (verifyCompletes_audit _) h) hs he

/-- Settles O15: every command keeps the law, so every step does. -/
theorem stepKeepsAuditLaw : Obligations.StepKeepsAuditLaw := fun _ _ hs he =>
  lineBlind_auditLaw.step timeBlind_auditLaw (fun _ _ _ => auditLaw_exec) hs he

end Sys2Proof.Machine

/-! SUPPORT. Device reset (R176): the items at its release, and that only DEVICE_RESET acts while it holds the part. -/

namespace Sys2Proof.Machine

/-- Every command but DEVICE_RESET is an action taken only while device reset does not hold the part. -/
theorem exec_unlessHeld {c : Instr} (hreset : ∀ e, c ≠ .deviceReset e) : ∃ action, exec c = unlessHeld action := by
  cases c
  case deviceReset e => exact absurd rfl (hreset e)
  case frameForward p h body => cases body <;> exact ⟨_, rfl⟩
  case localFrameDiscard p bytes => exact ⟨id, funext fun s => congrArg _ (ite_self s).symm⟩
  all_goals exact ⟨_, rfl⟩

theorem exec_held {c : Instr} (hreset : ∀ e, c ≠ .deviceReset e) {s : State} (hheld : s.held = true) :
    exec c s = .next s := by
  obtain ⟨action, haction⟩ := exec_unlessHeld hreset
  rw [haction, unlessHeld_held hheld]

theorem dueEvents_held {s : State} (hheld : s.held = true) : dueEvents s = [] := if_pos hheld

theorem portOf_holdReset (s : State) (p : Port) : portOf (holdReset s).line p = {} := by cases p <;> rfl

/-- Settles O7: the release, the hold, and the time between them. -/
theorem deviceResetValues : Obligations.DeviceResetValues := by
  intro straps s
  refine ⟨rfl, ⟨holdReset s, rfl, rfl, rfl, fun p => ?_, rfl, rfl, rfl⟩,
    fun hheld => ⟨dueEvents_held hheld, fun _ hreset => exec_held hreset hheld⟩⟩
  rw [portOf_holdReset]
  exact ⟨rfl, rfl, rfl⟩

end Sys2Proof.Machine

/-! SUPPORT. The bytes of frames (11.1 to 11.3): fields of two and three bytes there and back, the check sequence on
numbers (R175), and which strings of bytes are good frames. -/

namespace Sys2Proof.Machine

open Sys2Proof.Safety

/-! ### Fields of several bytes -/

@[simp] theorem word16_bytes (w : Word16) : word16 (highByte w) (lowByte w) = w :=
  (BitVec.extractLsb'_append_extractLsb'_eq_extractLsb' rfl).trans BitVec.extractLsb'_eq_self

@[simp] theorem word24_bytes (w : Word24) :
    word24 (w.extractLsb' 16 8) (w.extractLsb' 8 8) (w.extractLsb' 0 8) = w := by
  have hhigh : w.extractLsb' 16 8 ++ w.extractLsb' 8 8 = w.extractLsb' 8 16 :=
    BitVec.extractLsb'_append_extractLsb'_eq_extractLsb' rfl
  rw [word24, hhigh]
  exact (BitVec.extractLsb'_append_extractLsb'_eq_extractLsb' rfl).trans BitVec.extractLsb'_eq_self

theorem toNat_word16 (hi lo : Byte) : (word16 hi lo).toNat = hi.toNat * 256 + lo.toNat := by
  rw [word16, BitVec.toNat_append, ← Nat.shiftLeft_add_eq_or_of_lt lo.isLt, Nat.shiftLeft_eq]

/-- Two bytes spell one field only. -/
theorem bytes16_word16 (hi lo : Byte) : bytes16 (word16 hi lo) = [hi, lo] := by
  have h := congrArg BitVec.toNat (word16_bytes (word16 hi lo))
  simp only [toNat_word16] at h
  have hhigh : highByte (word16 hi lo) = hi := by bv_omega
  have hlow : lowByte (word16 hi lo) = lo := by bv_omega
  rw [bytes16, hhigh, hlow]

/-! ### The check sequence on numbers (R175) -/

theorem toNat_getLsbD {w : Nat} (x : BitVec w) (i : Nat) : (x.getLsbD i).toNat = x.toNat / 2 ^ i % 2 :=
  Nat.toNat_testBit x.toNat i

theorem toNat_crcBit (r : Word16) (bit : Bool) : (crcBit r bit).toNat = checkStep r.toNat bit.toNat := by
  have hmsb : r.toNat / 2 ^ 15 = r.msb.toNat := by
    rw [BitVec.msb_eq_getLsbD_last, toNat_getLsbD]
    exact (Nat.mod_eq_of_lt (by omega)).symm
  have hshift : (r <<< 1).toNat = 2 * r.toNat % 2 ^ 16 := by
    rw [BitVec.toNat_shiftLeft, Nat.shiftLeft_eq, pow_one, Nat.mul_comm]
  unfold crcBit checkStep
  rw [hmsb]
  by_cases h : r.msb = bit
  · simp [h, hshift]
  · have hne : r.msb.toNat ≠ bit.toNat := by revert h; cases r.msb <;> cases bit <;> decide
    rw [if_neg hne, if_pos (bne_iff_ne.2 h), BitVec.toNat_xor, hshift]
    rfl

theorem toNat_foldl_crcBit (bits : List Bool) (r : Word16) :
    (bits.foldl crcBit r).toNat = (bits.map Bool.toNat).foldl checkStep r.toNat := by
  induction bits generalizing r with
  | nil => rfl
  | cons bit bits ih => rw [List.foldl_cons, ih, toNat_crcBit]; rfl

theorem toNat_crcByte (r : Word16) (b : Byte) :
    (crcByte r b).toNat = ([7, 6, 5, 4, 3, 2, 1, 0].map fun i => b.toNat / 2 ^ i % 2).foldl checkStep r.toNat := by
  have hfold := toNat_foldl_crcBit ([7, 6, 5, 4, 3, 2, 1, 0].map b.getLsbD) r
  rw [List.foldl_map, List.map_map] at hfold
  exact hfold.trans (congrArg (List.foldl checkStep r.toNat) (List.map_congr_left fun i _ => toNat_getLsbD b i))

theorem toNat_checkSequence (bytes : List Byte) : (checkSequence bytes).toNat = checkValue bytes := by
  have hfrom (r : Word16) : (bytes.foldl crcByte r).toNat =
      (bytes.flatMap fun b => [7, 6, 5, 4, 3, 2, 1, 0].map fun i => b.toNat / 2 ^ i % 2).foldl checkStep r.toNat := by
    induction bytes generalizing r with
    | nil => rfl
    | cons b bytes ih => rw [List.foldl_cons, ih, toNat_crcByte, List.flatMap_cons, List.foldl_append]
  exact hfrom _

/-- Judged on numbers or on words, a string ends in the check sequence of its body. -/
theorem checked_iff (body bytes : List Byte) : Checked body bytes ↔ bytes = withCheck body := by
  constructor
  · rintro ⟨hi, lo, rfl, hvalue⟩
    have hword : checkSequence body = word16 hi lo :=
      BitVec.eq_of_toNat_eq (by rw [toNat_checkSequence, hvalue, toNat_word16])
    rw [withCheck, hword, bytes16_word16]
  · rintro rfl
    exact ⟨_, _, rfl, by rw [← toNat_word16, word16_bytes, toNat_checkSequence]⟩

theorem length_withCheck (body : List Byte) : (withCheck body).length = body.length + 2 := by
  simp [withCheck, bytes16]

/-- The body is what stands before the last two bytes. -/
theorem body_of_checked {body bytes : List Byte} (h : Checked body bytes) :
    body = bytes.take (bytes.length - 2) := by
  obtain ⟨hi, lo, rfl, -⟩ := h
  simp

theorem checkGood_iff (bytes : List Byte) : checkGood bytes = true ↔ ∃ body, Checked body bytes := by
  simp only [checked_iff]
  constructor
  · intro h
    simp only [checkGood, Bool.and_eq_true, beq_iff_eq] at h
    exact ⟨_, h.2⟩
  · rintro ⟨body, rfl⟩
    exact checkGood_withCheck body

/-! ### Good frames (R175) -/

theorem leastPayload_le_iff (kind : Byte) (n : Nat) :
    leastPayload kind ≤ n ↔ (kind = 1#8 → 6 ≤ n) ∧ (kind = 2#8 → 8 ≤ n) ∧ (kind = 3#8 → 7 ≤ n) := by
  unfold leastPayload
  split_ifs <;> simp [*]

/-- The four cases of R175: the check, the length, its bound, and the least payload of the kind. -/
theorem lineFrameGood_iff (bytes : List Byte) :
    lineFrameGood bytes = true ↔ ∃ (kind dest source level tagHigh tagLow hop l : Byte) (payload : List Byte),
      Checked ([kind, dest, source, level, tagHigh, tagLow, hop, l] ++ payload) bytes
        ∧ bytes.length = 10 + l.toNat ∧ l.toNat ≤ 96 ∧ leastPayload kind ≤ l.toNat := by
  constructor
  · intro h
    unfold lineFrameGood at h
    split at h
    · next kind dest source level tagHigh tagLow hop l tail =>
      simp only [Bool.and_eq_true, beq_iff_eq, decide_eq_true_eq] at h
      obtain ⟨⟨⟨hcheck, hlength⟩, hmost⟩, hleast⟩ := h
      obtain ⟨body, hchecked⟩ := (checkGood_iff _).1 hcheck
      rw [body_of_checked hchecked, hlength, Nat.add_comm, Nat.add_sub_assoc (by decide)] at hchecked
      exact ⟨kind, dest, source, level, tagHigh, tagLow, hop, l, tail.take l.toNat, hchecked, hlength, hmost, hleast⟩
    · cases h
  · rintro ⟨kind, dest, source, level, tagHigh, tagLow, hop, l, payload, hchecked, hlength, hmost, hleast⟩
    have hcheck := (checkGood_iff bytes).2 ⟨_, hchecked⟩
    obtain ⟨hi, lo, rfl, -⟩ := hchecked
    simp only [List.cons_append, List.nil_append] at hcheck hlength ⊢
    simp only [lineFrameGood, hcheck, hlength, hmost, hleast, BEq.rfl, decide_true, Bool.and_self]

/-- A good frame of a local port: of its kind and its length, with its check (11.3). -/
theorem localFrameGood_iff (kind : Byte) (n : Nat) (bytes : List Byte) :
    (bytes.length == n + 3 && bytes.head? == some kind && checkGood bytes) = true
      ↔ ∃ rest, rest.length = n ∧ Checked (kind :: rest) bytes := by
  simp only [Bool.and_eq_true, beq_iff_eq, checkGood_iff]
  constructor
  · rintro ⟨⟨hlength, hhead⟩, body, hchecked⟩
    obtain rfl := (checked_iff ..).1 hchecked
    rw [length_withCheck] at hlength
    cases body with
    | nil => cases hlength
    | cons b rest =>
      obtain rfl : b = kind := Option.some.inj hhead
      exact ⟨rest, Nat.succ.inj (Nat.add_right_cancel hlength), hchecked⟩
  · rintro ⟨rest, rfl, hchecked⟩
    obtain rfl := (checked_iff ..).1 hchecked
    exact ⟨⟨length_withCheck _, rfl⟩, _, hchecked⟩

/-! ### Frames discarded -/

theorem decodeSensor_bad {bytes : List Byte} (h : senseFrameGood bytes = false) :
    decodeSensor bytes = .localFrameDiscard .sensor bytes := by simp [decodeSensor, h]

theorem decodeDrive_bad {bytes : List Byte} (h : ackFrameGood bytes = false) :
    decodeDrive bytes = .localFrameDiscard .drive bytes := by simp [decodeDrive, h]

theorem decodeLine_bad (port : Port) {bytes : List Byte} (h : lineFrameGood bytes = false) :
    decodeLine port bytes = .checkError port bytes := by simp [decodeLine, h]

/-- Settles O5: the judgement of each port, and the discarding of what it refuses. -/
theorem badFramesDiscarded : Obligations.BadFramesDiscarded := by
  intro port bytes s
  refine ⟨?_, localFrameGood_iff 1#8 3 bytes, localFrameGood_iff 4#8 4 bytes, decodeSensor_bad, decodeDrive_bad,
    decodeLine_bad port, fun _ => rfl, rfl, fun _ => rfl, fun hheld => unlessHeld_awake hheld _⟩
  simp only [lineFrameGood_iff, leastPayload_le_iff]

/-! ### Frames decoded (11.1 to 11.3) -/

/-- A good frame laid out by 11.1 is decoded by its kind, from the header and the payload it was laid out with. -/
theorem decodeLine_lineBytes (port : Port) (h : Header) {kind : Byte} {payload : List Byte}
    (hfits : payloadFits payload.length = true) (hleast : leastPayload kind ≤ payload.length) :
    decodeLine port (lineBytes kind h payload) = decodeKind port h kind payload (lineBytes kind h payload) := by
  have hgood : lineFrameGood (lineBytes kind h payload) = true := by
    rw [lineFrameGood_lineBytes kind h payload (of_decide_eq_true hfits), decide_eq_true hleast]
  obtain ⟨hi, lo, hbytes⟩ : ∃ hi lo, lineBytes kind h payload = kind :: h.dest :: h.source :: h.level ::
      highByte h.tag :: lowByte h.tag :: h.hop :: BitVec.ofNat 8 payload.length :: (payload ++ [hi, lo]) :=
    ⟨_, _, rfl⟩
  have htake : (payload ++ [hi, lo]).take ((payload ++ [hi, lo]).length - 2) = payload := by simp
  unfold decodeLine
  rw [if_pos hgood, hbytes]
  simp only [htake, word16_bytes]

section
variable (port : Port) (h : Header)

theorem decodeLine_odometry (c : Word24) (v : Word16) (d : Byte) {rest : List Byte}
    (hfits : payloadFits (6 + rest.length) = true) :
    decodeLine port (lineBytes 1#8 h (odometryPayload c v d rest)) = .odometry port h c v d rest := by
  have hlength : (odometryPayload c v d rest).length = 6 + rest.length := Nat.add_comm rest.length 6
  rw [decodeLine_lineBytes port h (by rwa [hlength]) (hlength ▸ Nat.le_add_right 6 _)]
  simp [decodeKind, odometryPayload, bytes24, bytes16]

theorem decodeLine_fix (b p : Word24) (acc verdict : Byte) {rest : List Byte}
    (hfits : payloadFits (8 + rest.length) = true) :
    decodeLine port (lineBytes 2#8 h (fixPayload b p acc verdict rest)) = .fix port h b p acc verdict rest := by
  have hlength : (fixPayload b p acc verdict rest).length = 8 + rest.length := Nat.add_comm rest.length 8
  rw [decodeLine_lineBytes port h (by rwa [hlength]) (hlength ▸ Nat.le_add_right 8 _)]
  simp [decodeKind, fixPayload, bytes24]

theorem decodeLine_sample (c : Word24) (a : Word16) (flags seq : Byte) {rest : List Byte}
    (hfits : payloadFits (7 + rest.length) = true) :
    decodeLine port (lineBytes 3#8 h (samplePayload c a flags seq rest)) = .sample port h c a flags seq rest := by
  have hlength : (samplePayload c a flags seq rest).length = 7 + rest.length := Nat.add_comm rest.length 7
  rw [decodeLine_lineBytes port h (by rwa [hlength]) (hlength ▸ Nat.le_add_right 7 _)]
  simp [decodeKind, samplePayload, bytes24, bytes16]

/-- A REQUEST frame is decoded by its payload alone. -/
theorem decodeLine_request {payload : List Byte} (hfits : payloadFits payload.length = true) :
    decodeLine port (lineBytes 4#8 h payload) = decodeRequest port h payload :=
  decodeLine_lineBytes port h hfits (Nat.zero_le _)

/-- A frame of a kind outside 1 .. 4 is one to pass on (R155). -/
theorem decodeLine_other {kind : Byte} {payload : List Byte} (hkind : (1#8 ≤ kind && kind ≤ 4#8) = false)
    (hfits : payloadFits payload.length = true) :
    decodeLine port (lineBytes kind h payload) = .frameForward port h (.other kind payload) := by
  have hne : ∀ k ∈ [1#8, 2#8, 3#8, 4#8], kind ≠ k := by
    rintro k hk rfl
    have hin : ∀ k ∈ [1#8, 2#8, 3#8, 4#8], (1#8 ≤ k && k ≤ 4#8) = true := by decide
    rw [hin _ hk] at hkind
    cases hkind
  simp only [List.forall_mem_cons] at hne
  obtain ⟨h1, h2, h3, h4, -⟩ := hne
  rw [decodeLine_lineBytes port h hfits (by simp [leastPayload, h1, h2, h3])]
  simp only [decodeKind, h1, h2, h3, h4, if_false]

theorem decodeRequest_outside {code : Byte} (args : List Byte) (hcode : catalogueCode code = false) :
    decodeRequest port h (code :: args) = .requestUnknown port h (code :: args) := by
  have hrows : ∀ k ∈ catalogue.map RequestRow.code, catalogueCode k = true := by
    rw [catalogue_codes]
    decide
  refine decodeRequest_unknown port h args fun row hm heq => ?_
  rw [← heq, hrows _ (List.mem_map_of_mem hm)] at hcode
  cases hcode

theorem decodeArrival_requestArrival {code : Byte} {args : List Byte} {c : Instr}
    (hfits : payloadFits (1 + args.length) = true) (hc : decodeRequest port h (code :: args) = c) :
    decodeArrival (requestArrival code port h args) = some c := by
  rw [Nat.add_comm] at hfits
  exact congrArg some ((decodeLine_request port h (payload := code :: args) hfits).trans hc)

end

theorem decodeSensor_senseBytes (a : Word16) (flags : Byte) : decodeSensor (senseBytes a flags) = .sense a flags := by
  have hgood : senseFrameGood (senseBytes a flags) = true :=
    (localFrameGood_iff 1#8 3 _).2 ⟨bytes16 a ++ [flags], rfl, (checked_iff ..).2 rfl⟩
  unfold decodeSensor
  rw [if_pos hgood]
  exact congrArg (Instr.sense · flags) (word16_bytes a)

theorem decodeDrive_ackBytes (q : Byte) (x : Word16) (status : Byte) :
    decodeDrive (ackBytes q x status) = .driveAck q x status := by
  have hgood : ackFrameGood (ackBytes q x status) = true :=
    (localFrameGood_iff 4#8 4 _).2 ⟨q :: bytes16 x ++ [status], rfl, (checked_iff ..).2 rfl⟩
  unfold decodeDrive
  rw [if_pos hgood]
  exact congrArg (Instr.driveAck q · status) (word16_bytes x)

/-- A frame discarded on a local port is a bad one, or one cut by the release of device reset (R175, R176). -/
theorem decodeArrival_localFrameDiscard (port : LocalPort) (bytes : List Byte) :
    decodeArrival (encode (.localFrameDiscard port bytes)) = some (.localFrameDiscard port bytes) := by
  cases port
  case sensor =>
    cases hgood : senseFrameGood bytes
    · simpa [encode, hgood, decodeArrival] using decodeSensor_bad hgood
    · simp [encode, hgood, decodeArrival]
  case drive =>
    cases hgood : ackFrameGood bytes
    · simpa [encode, hgood, decodeArrival] using decodeDrive_bad hgood
    · simp [encode, hgood, decodeArrival]

/-- So is a line frame counted as a check error (R154, R176). -/
theorem decodeArrival_checkError (port : Port) (bytes : List Byte) :
    decodeArrival (encode (.checkError port bytes)) = some (.checkError port bytes) := by
  cases hgood : lineFrameGood bytes
  · simpa [encode, hgood, decodeArrival] using decodeLine_bad port hgood
  · simp [encode, hgood, decodeArrival]

/-- Settles O4: kind by kind, the requests of the catalogue by their codes. -/
theorem framesDecode : Obligations.FramesDecode := by
  intro c hwf hframe
  cases c
  case deviceReset | odoLost | stepExpiry | verifyCompletion | transmissionCompletion => exact absurd rfl hframe
  case odometry port h c v d rest => exact congrArg some (decodeLine_odometry port h c v d hwf)
  case fix port h b p acc verdict rest => exact congrArg some (decodeLine_fix port h b p acc verdict hwf)
  case sample port h c a flags seq rest => exact congrArg some (decodeLine_sample port h c a flags seq hwf)
  case sense a flags => exact congrArg some (decodeSensor_senseBytes a flags)
  case driveAck q x status => exact congrArg some (decodeDrive_ackBytes q x status)
  case localFrameDiscard port bytes => exact decodeArrival_localFrameDiscard port bytes
  case checkError port bytes => exact decodeArrival_checkError port bytes
  case frameForward port h body =>
    cases body with
    | request payload => exact congrArg some (decodeLine_request port h hwf)
    | other kind payload =>
      simp only [wellFormed, Bool.and_eq_true, Bool.not_eq_true'] at hwf
      exact congrArg some (decodeLine_other port h hwf.1 hwf.2)
  case trailDrop port h payload => exact congrArg some (decodeLine_request port h hwf)
  case requestUnknown port h payload =>
    cases payload with
    | nil => exact congrArg some (decodeLine_request port h rfl)
    | cons code args =>
      simp only [wellFormed, Bool.and_eq_true, Bool.not_eq_true'] at hwf
      exact decodeArrival_requestArrival port h hwf.2 (decodeRequest_outside port h args hwf.1)
  all_goals exact decodeArrival_requestArrival _ _ hwf rfl

end Sys2Proof.Machine

/-! SUPPORT. The block on a queue that holds commands; the idle block is above. -/

namespace Sys2Proof.Machine

/-- The other branch of `step` beside `step_of_idle`: the command sees the state with the queue's rest. -/
theorem step_of_front {s : State} {c : Instr} {rest : List Instr} (h : s.pending = c :: rest) :
    step s = exec c { s with pending := rest } := by
  simp only [step, h]

/-- Settles O1: the queue of the given state is `c :: rest`, and the queue it then writes is the one `exec` gets. -/
theorem stepRunsFrontCommand : Obligations.StepRunsFrontCommand :=
  fun _ _ _ => step_of_front rfl

end Sys2Proof.Machine
